-- ==== Sys2Proof/Word.lean ====
section
/-! DEFINITION. The word types of the core (rules R7, R20, R23, R25) and the five one-bit flags as one record. -/

namespace Sys2Proof

/-- An 8-bit value: a register, a memory byte, an immediate, a port number (rules R7, R20, R50, R242). -/
abbrev Byte := BitVec 8

/-- A 16-bit value: an address, `pc`, `sp`, a pair view, the widened intermediate (rules R21, R23, R30, R130). -/
abbrev Word := BitVec 16

/-- The five one-bit flags of rule R25. -/
structure Flags where
  /-- carry `CY` -/
  cy : Bool
  /-- zero `Z` -/
  z : Bool
  /-- sign `S` -/
  s : Bool
  /-- parity `P`, true for an even number of 1 bits -/
  p : Bool
  /-- the auxiliary-carry placeholder `AC` (rule R29) -/
  ac : Bool
  deriving DecidableEq, Repr, Inhabited

end Sys2Proof
end

