-- ==== Sys2Proof/Machine/Bits.lean ====
section
/-! DEFINITION. Halves and wholes of 16-bit values (rules R7, R21) and the bit fields of the opcode byte (rule R82). -/

namespace Sys2Proof.Machine

/-- The high half `v[15:8]` (rule R21). -/
def hiByte (v : Word) : Byte := v.extractLsb' 8 8

/-- The low half `v[7:0]` (rule R21). -/
def loByte (v : Word) : Byte := v.extractLsb' 0 8

/-- The 16-bit value `hi ++ lo` (rules R7, R21). -/
def mkWord (hi lo : Byte) : Word := hi ++ lo

/-- `op[7:6]`, the group (rule R82). -/
def opGroup (op : Byte) : Nat := (op.extractLsb' 6 2).toNat

/-- `op[5:3]`: `ddd`, `aaa`, `ccc` or `nnn` (rule R82). -/
def opMid (op : Byte) : Nat := (op.extractLsb' 3 3).toNat

/-- `op[5:4]`: the pair code `pp` (rule R82). -/
def opPair (op : Byte) : Nat := (op.extractLsb' 4 2).toNat

/-- `op[3]`, which of the two instructions that share a `pp` slot (rule R82). -/
def opSide (op : Byte) : Bool := op.getLsbD 3

/-- `op[2:0]`: `sss`, or part of the opcode (rule R82). -/
def opLow (op : Byte) : Nat := (op.extractLsb' 0 3).toNat

end Sys2Proof.Machine
end

