-- ==== Sys2Proof/Syntax.lean ====
section
/-! DEFINITION. The instruction set as syntax: the operand names of rules R84, R85, R86 and R90, and `Instr`, one constructor
per row of spec/opcode_table.json (rule R92; the twelve rows with the mnemonic `(undefined)` are the one constructor `undefinedOp`,
which carries the opcode byte). -/

namespace Sys2Proof

/-- 8-bit operand codes `ddd` and `sss` (rule R84), in code order. `m` is the byte at address HL, not a register. -/
inductive R8 where
  | b | c | d | e | h | l | m | a
  deriving DecidableEq, Repr

/-- 16-bit operand codes `pp` of LXI, INX, DCX and DAD (rule R85), in code order. -/
inductive RP where
  | bc | de | hl | sp
  deriving DecidableEq, Repr

/-- 16-bit operand codes `pp` of PUSH and POP (rule R85), in code order. -/
inductive StackPair where
  | bc | de | hl | psw
  deriving DecidableEq, Repr

/-- Condition codes `ccc` (rule R86), in code order. -/
inductive Cond where
  | nz | z | nc | c | po | pe | p | m
  deriving DecidableEq, Repr

/-- ALU operation codes `aaa` (rule R90), in code order. -/
inductive AluOp where
  | add | adc | sub | sbb | ana | xra | ora | cmp
  deriving DecidableEq, Repr

/-- The instructions. A 1-byte instruction has no argument, a 2-byte one its `imm8`, a 3-byte one its `imm16`
(rules R81, R87). -/
inductive Instr where
  /-- a byte of UNDEFINED_OPCODES (0x08, 0x10, 0x18, 0x20, 0x28, 0x30, 0x38, 0xCB, 0xD9, 0xDD, 0xED, 0xFD), rules R93, R274. -/
  | undefinedOp (op : Byte)
  /-- 0x00 NOP, rule R228. -/
  | nop
  /-- 0x01 LXI B,imm16, rule R116. -/
  | lxiB (w : Word)
  /-- 0x02 STAX B, rule R122. -/
  | staxB
  /-- 0x03 INX B, rule R156. -/
  | inxB
  /-- 0x04 INR B, rule R154. -/
  | inrB
  /-- 0x05 DCR B, rule R155. -/
  | dcrB
  /-- 0x06 MVI B,imm8, rule R114. -/
  | mviB (imm : Byte)
  /-- 0x07 RLC, rule R171. -/
  | rlc
  /-- 0x09 DAD B, rule R158. -/
  | dadB
  /-- 0x0A LDAX B, rule R121. -/
  | ldaxB
  /-- 0x0B DCX B, rule R157. -/
  | dcxB
  /-- 0x0C INR C, rule R154. -/
  | inrC
  /-- 0x0D DCR C, rule R155. -/
  | dcrC
  /-- 0x0E MVI C,imm8, rule R114. -/
  | mviC (imm : Byte)
  /-- 0x0F RRC, rule R172. -/
  | rrc
  /-- 0x11 LXI D,imm16, rule R116. -/
  | lxiD (w : Word)
  /-- 0x12 STAX D, rule R122. -/
  | staxD
  /-- 0x13 INX D, rule R156. -/
  | inxD
  /-- 0x14 INR D, rule R154. -/
  | inrD
  /-- 0x15 DCR D, rule R155. -/
  | dcrD
  /-- 0x16 MVI D,imm8, rule R114. -/
  | mviD (imm : Byte)
  /-- 0x17 RAL, rule R173. -/
  | ral
  /-- 0x19 DAD D, rule R158. -/
  | dadD
  /-- 0x1A LDAX D, rule R121. -/
  | ldaxD
  /-- 0x1B DCX D, rule R157. -/
  | dcxD
  /-- 0x1C INR E, rule R154. -/
  | inrE
  /-- 0x1D DCR E, rule R155. -/
  | dcrE
  /-- 0x1E MVI E,imm8, rule R114. -/
  | mviE (imm : Byte)
  /-- 0x1F RAR, rule R174. -/
  | rar
  /-- 0x21 LXI H,imm16, rule R116. -/
  | lxiH (w : Word)
  /-- 0x22 SHLD a16, rule R119. -/
  | shld (w : Word)
  /-- 0x23 INX H, rule R156. -/
  | inxH
  /-- 0x24 INR H, rule R154. -/
  | inrH
  /-- 0x25 DCR H, rule R155. -/
  | dcrH
  /-- 0x26 MVI H,imm8, rule R114. -/
  | mviH (imm : Byte)
  /-- 0x27 DAA, rule R223. -/
  | daa
  /-- 0x29 DAD H, rule R158. -/
  | dadH
  /-- 0x2A LHLD a16, rule R118. -/
  | lhld (w : Word)
  /-- 0x2B DCX H, rule R157. -/
  | dcxH
  /-- 0x2C INR L, rule R154. -/
  | inrL
  /-- 0x2D DCR L, rule R155. -/
  | dcrL
  /-- 0x2E MVI L,imm8, rule R114. -/
  | mviL (imm : Byte)
  /-- 0x2F CMA, rule R220. -/
  | cma
  /-- 0x31 LXI SP,imm16, rule R116. -/
  | lxiSp (w : Word)
  /-- 0x32 STA a16, rule R120. -/
  | sta (w : Word)
  /-- 0x33 INX SP, rule R156. -/
  | inxSp
  /-- 0x34 INR M, rule R154. -/
  | inrM
  /-- 0x35 DCR M, rule R155. -/
  | dcrM
  /-- 0x36 MVI M,imm8, rule R115. -/
  | mviM (imm : Byte)
  /-- 0x37 STC, rule R222. -/
  | stc
  /-- 0x39 DAD SP, rule R158. -/
  | dadSp
  /-- 0x3A LDA a16, rule R117. -/
  | lda (w : Word)
  /-- 0x3B DCX SP, rule R157. -/
  | dcxSp
  /-- 0x3C INR A, rule R154. -/
  | inrA
  /-- 0x3D DCR A, rule R155. -/
  | dcrA
  /-- 0x3E MVI A,imm8, rule R114. -/
  | mviA (imm : Byte)
  /-- 0x3F CMC, rule R221. -/
  | cmc
  /-- 0x40 MOV B,B, rule R111. -/
  | movBB
  /-- 0x41 MOV B,C, rule R111. -/
  | movBC
  /-- 0x42 MOV B,D, rule R111. -/
  | movBD
  /-- 0x43 MOV B,E, rule R111. -/
  | movBE
  /-- 0x44 MOV B,H, rule R111. -/
  | movBH
  /-- 0x45 MOV B,L, rule R111. -/
  | movBL
  /-- 0x46 MOV B,M, rule R112. -/
  | movBM
  /-- 0x47 MOV B,A, rule R111. -/
  | movBA
  /-- 0x48 MOV C,B, rule R111. -/
  | movCB
  /-- 0x49 MOV C,C, rule R111. -/
  | movCC
  /-- 0x4A MOV C,D, rule R111. -/
  | movCD
  /-- 0x4B MOV C,E, rule R111. -/
  | movCE
  /-- 0x4C MOV C,H, rule R111. -/
  | movCH
  /-- 0x4D MOV C,L, rule R111. -/
  | movCL
  /-- 0x4E MOV C,M, rule R112. -/
  | movCM
  /-- 0x4F MOV C,A, rule R111. -/
  | movCA
  /-- 0x50 MOV D,B, rule R111. -/
  | movDB
  /-- 0x51 MOV D,C, rule R111. -/
  | movDC
  /-- 0x52 MOV D,D, rule R111. -/
  | movDD
  /-- 0x53 MOV D,E, rule R111. -/
  | movDE
  /-- 0x54 MOV D,H, rule R111. -/
  | movDH
  /-- 0x55 MOV D,L, rule R111. -/
  | movDL
  /-- 0x56 MOV D,M, rule R112. -/
  | movDM
  /-- 0x57 MOV D,A, rule R111. -/
  | movDA
  /-- 0x58 MOV E,B, rule R111. -/
  | movEB
  /-- 0x59 MOV E,C, rule R111. -/
  | movEC
  /-- 0x5A MOV E,D, rule R111. -/
  | movED
  /-- 0x5B MOV E,E, rule R111. -/
  | movEE
  /-- 0x5C MOV E,H, rule R111. -/
  | movEH
  /-- 0x5D MOV E,L, rule R111. -/
  | movEL
  /-- 0x5E MOV E,M, rule R112. -/
  | movEM
  /-- 0x5F MOV E,A, rule R111. -/
  | movEA
  /-- 0x60 MOV H,B, rule R111. -/
  | movHB
  /-- 0x61 MOV H,C, rule R111. -/
  | movHC
  /-- 0x62 MOV H,D, rule R111. -/
  | movHD
  /-- 0x63 MOV H,E, rule R111. -/
  | movHE
  /-- 0x64 MOV H,H, rule R111. -/
  | movHH
  /-- 0x65 MOV H,L, rule R111. -/
  | movHL
  /-- 0x66 MOV H,M, rule R112. -/
  | movHM
  /-- 0x67 MOV H,A, rule R111. -/
  | movHA
  /-- 0x68 MOV L,B, rule R111. -/
  | movLB
  /-- 0x69 MOV L,C, rule R111. -/
  | movLC
  /-- 0x6A MOV L,D, rule R111. -/
  | movLD
  /-- 0x6B MOV L,E, rule R111. -/
  | movLE
  /-- 0x6C MOV L,H, rule R111. -/
  | movLH
  /-- 0x6D MOV L,L, rule R111. -/
  | movLL
  /-- 0x6E MOV L,M, rule R112. -/
  | movLM
  /-- 0x6F MOV L,A, rule R111. -/
  | movLA
  /-- 0x70 MOV M,B, rule R113. -/
  | movMB
  /-- 0x71 MOV M,C, rule R113. -/
  | movMC
  /-- 0x72 MOV M,D, rule R113. -/
  | movMD
  /-- 0x73 MOV M,E, rule R113. -/
  | movME
  /-- 0x74 MOV M,H, rule R113. -/
  | movMH
  /-- 0x75 MOV M,L, rule R113. -/
  | movML
  /-- 0x76 HLT, rule R227. -/
  | hlt
  /-- 0x77 MOV M,A, rule R113. -/
  | movMA
  /-- 0x78 MOV A,B, rule R111. -/
  | movAB
  /-- 0x79 MOV A,C, rule R111. -/
  | movAC
  /-- 0x7A MOV A,D, rule R111. -/
  | movAD
  /-- 0x7B MOV A,E, rule R111. -/
  | movAE
  /-- 0x7C MOV A,H, rule R111. -/
  | movAH
  /-- 0x7D MOV A,L, rule R111. -/
  | movAL
  /-- 0x7E MOV A,M, rule R112. -/
  | movAM
  /-- 0x7F MOV A,A, rule R111. -/
  | movAA
  /-- 0x80 ADD B, rule R138. -/
  | addB
  /-- 0x81 ADD C, rule R138. -/
  | addC
  /-- 0x82 ADD D, rule R138. -/
  | addD
  /-- 0x83 ADD E, rule R138. -/
  | addE
  /-- 0x84 ADD H, rule R138. -/
  | addH
  /-- 0x85 ADD L, rule R138. -/
  | addL
  /-- 0x86 ADD M, rule R138. -/
  | addM
  /-- 0x87 ADD A, rule R138. -/
  | addA
  /-- 0x88 ADC B, rule R140. -/
  | adcB
  /-- 0x89 ADC C, rule R140. -/
  | adcC
  /-- 0x8A ADC D, rule R140. -/
  | adcD
  /-- 0x8B ADC E, rule R140. -/
  | adcE
  /-- 0x8C ADC H, rule R140. -/
  | adcH
  /-- 0x8D ADC L, rule R140. -/
  | adcL
  /-- 0x8E ADC M, rule R140. -/
  | adcM
  /-- 0x8F ADC A, rule R140. -/
  | adcA
  /-- 0x90 SUB B, rule R142. -/
  | subB
  /-- 0x91 SUB C, rule R142. -/
  | subC
  /-- 0x92 SUB D, rule R142. -/
  | subD
  /-- 0x93 SUB E, rule R142. -/
  | subE
  /-- 0x94 SUB H, rule R142. -/
  | subH
  /-- 0x95 SUB L, rule R142. -/
  | subL
  /-- 0x96 SUB M, rule R142. -/
  | subM
  /-- 0x97 SUB A, rule R142. -/
  | subA
  /-- 0x98 SBB B, rule R144. -/
  | sbbB
  /-- 0x99 SBB C, rule R144. -/
  | sbbC
  /-- 0x9A SBB D, rule R144. -/
  | sbbD
  /-- 0x9B SBB E, rule R144. -/
  | sbbE
  /-- 0x9C SBB H, rule R144. -/
  | sbbH
  /-- 0x9D SBB L, rule R144. -/
  | sbbL
  /-- 0x9E SBB M, rule R144. -/
  | sbbM
  /-- 0x9F SBB A, rule R144. -/
  | sbbA
  /-- 0xA0 ANA B, rule R146. -/
  | anaB
  /-- 0xA1 ANA C, rule R146. -/
  | anaC
  /-- 0xA2 ANA D, rule R146. -/
  | anaD
  /-- 0xA3 ANA E, rule R146. -/
  | anaE
  /-- 0xA4 ANA H, rule R146. -/
  | anaH
  /-- 0xA5 ANA L, rule R146. -/
  | anaL
  /-- 0xA6 ANA M, rule R146. -/
  | anaM
  /-- 0xA7 ANA A, rule R146. -/
  | anaA
  /-- 0xA8 XRA B, rule R148. -/
  | xraB
  /-- 0xA9 XRA C, rule R148. -/
  | xraC
  /-- 0xAA XRA D, rule R148. -/
  | xraD
  /-- 0xAB XRA E, rule R148. -/
  | xraE
  /-- 0xAC XRA H, rule R148. -/
  | xraH
  /-- 0xAD XRA L, rule R148. -/
  | xraL
  /-- 0xAE XRA M, rule R148. -/
  | xraM
  /-- 0xAF XRA A, rule R148. -/
  | xraA
  /-- 0xB0 ORA B, rule R150. -/
  | oraB
  /-- 0xB1 ORA C, rule R150. -/
  | oraC
  /-- 0xB2 ORA D, rule R150. -/
  | oraD
  /-- 0xB3 ORA E, rule R150. -/
  | oraE
  /-- 0xB4 ORA H, rule R150. -/
  | oraH
  /-- 0xB5 ORA L, rule R150. -/
  | oraL
  /-- 0xB6 ORA M, rule R150. -/
  | oraM
  /-- 0xB7 ORA A, rule R150. -/
  | oraA
  /-- 0xB8 CMP B, rule R152. -/
  | cmpB
  /-- 0xB9 CMP C, rule R152. -/
  | cmpC
  /-- 0xBA CMP D, rule R152. -/
  | cmpD
  /-- 0xBB CMP E, rule R152. -/
  | cmpE
  /-- 0xBC CMP H, rule R152. -/
  | cmpH
  /-- 0xBD CMP L, rule R152. -/
  | cmpL
  /-- 0xBE CMP M, rule R152. -/
  | cmpM
  /-- 0xBF CMP A, rule R152. -/
  | cmpA
  /-- 0xC0 RNZ, rule R187. -/
  | rnz
  /-- 0xC1 POP B, rule R197. -/
  | popB
  /-- 0xC2 JNZ a16, rule R183. -/
  | jnz (w : Word)
  /-- 0xC3 JMP a16, rule R182. -/
  | jmp (w : Word)
  /-- 0xC4 CNZ a16, rule R185. -/
  | cnz (w : Word)
  /-- 0xC5 PUSH B, rule R195. -/
  | pushB
  /-- 0xC6 ADI imm8, rule R139. -/
  | adi (imm : Byte)
  /-- 0xC7 RST 0, rule R188. -/
  | rst0
  /-- 0xC8 RZ, rule R187. -/
  | rz
  /-- 0xC9 RET, rule R186. -/
  | ret
  /-- 0xCA JZ a16, rule R183. -/
  | jz (w : Word)
  /-- 0xCC CZ a16, rule R185. -/
  | cz (w : Word)
  /-- 0xCD CALL a16, rule R184. -/
  | call (w : Word)
  /-- 0xCE ACI imm8, rule R141. -/
  | aci (imm : Byte)
  /-- 0xCF RST 1, rule R188. -/
  | rst1
  /-- 0xD0 RNC, rule R187. -/
  | rnc
  /-- 0xD1 POP D, rule R197. -/
  | popD
  /-- 0xD2 JNC a16, rule R183. -/
  | jnc (w : Word)
  /-- 0xD3 OUT imm8, rule R250. -/
  | outPort (imm : Byte)
  /-- 0xD4 CNC a16, rule R185. -/
  | cnc (w : Word)
  /-- 0xD5 PUSH D, rule R195. -/
  | pushD
  /-- 0xD6 SUI imm8, rule R143. -/
  | sui (imm : Byte)
  /-- 0xD7 RST 2, rule R188. -/
  | rst2
  /-- 0xD8 RC, rule R187. -/
  | rc
  /-- 0xDA JC a16, rule R183. -/
  | jc (w : Word)
  /-- 0xDB IN imm8, rule R245. -/
  | inPort (imm : Byte)
  /-- 0xDC CC a16, rule R185. -/
  | cc (w : Word)
  /-- 0xDE SBI imm8, rule R145. -/
  | sbi (imm : Byte)
  /-- 0xDF RST 3, rule R188. -/
  | rst3
  /-- 0xE0 RPO, rule R187. -/
  | rpo
  /-- 0xE1 POP H, rule R197. -/
  | popH
  /-- 0xE2 JPO a16, rule R183. -/
  | jpo (w : Word)
  /-- 0xE3 XTHL, rule R211. -/
  | xthl
  /-- 0xE4 CPO a16, rule R185. -/
  | cpo (w : Word)
  /-- 0xE5 PUSH H, rule R195. -/
  | pushH
  /-- 0xE6 ANI imm8, rule R147. -/
  | ani (imm : Byte)
  /-- 0xE7 RST 4, rule R188. -/
  | rst4
  /-- 0xE8 RPE, rule R187. -/
  | rpe
  /-- 0xE9 PCHL, rule R213. -/
  | pchl
  /-- 0xEA JPE a16, rule R183. -/
  | jpe (w : Word)
  /-- 0xEB XCHG, rule R210. -/
  | xchg
  /-- 0xEC CPE a16, rule R185. -/
  | cpe (w : Word)
  /-- 0xEE XRI imm8, rule R149. -/
  | xri (imm : Byte)
  /-- 0xEF RST 5, rule R188. -/
  | rst5
  /-- 0xF0 RP, rule R187. -/
  | rp
  /-- 0xF1 POP PSW, rule R198. -/
  | popPsw
  /-- 0xF2 JP a16, rule R183. -/
  | jp (w : Word)
  /-- 0xF3 DI, rule R226. -/
  | di
  /-- 0xF4 CP a16, rule R185. -/
  | cp (w : Word)
  /-- 0xF5 PUSH PSW, rule R196. -/
  | pushPsw
  /-- 0xF6 ORI imm8, rule R151. -/
  | ori (imm : Byte)
  /-- 0xF7 RST 6, rule R188. -/
  | rst6
  /-- 0xF8 RM, rule R187. -/
  | rm
  /-- 0xF9 SPHL, rule R212. -/
  | sphl
  /-- 0xFA JM a16, rule R183. -/
  | jm (w : Word)
  /-- 0xFB EI, rule R225. -/
  | ei
  /-- 0xFC CM a16, rule R185. -/
  | cm (w : Word)
  /-- 0xFE CPI imm8, rule R153. -/
  | cpi (imm : Byte)
  /-- 0xFF RST 7, rule R188. -/
  | rst7
  deriving DecidableEq, Repr

end Sys2Proof
end

