-- ==== Sys2Proof/Config.lean ====
section
/-! DEFINITION. The parameters of rule R6: the values the spec decides or the model names, and, with no body, the values
the spec leaves OPEN or unspecified (free values). `DIAG_ENABLED` is an argument of the run and stands in `State`. -/

namespace Sys2Proof.Config

/-! ### Values the model names at reset (OPEN in the spec) -/

/-- `PC_INIT` (rules R43, R311). DESIGN CHOICE, log entry 1: the spec leaves it OPEN. -/
def pcInit : Word := 0x0000#16

/-- `SP_INIT` (rules R43, R311). DESIGN CHOICE, log entry 1: the spec leaves it OPEN. -/
def spInit : Word := 0x2400#16

/-- What a byte of memory that nothing has written reads as: `MEM_INIT` (rule R43). DESIGN CHOICE, log entry 2. -/
def memInit : Byte := 0x00#8

/-- What every entry of the port array holds at reset (rule R43 leaves it unspecified). DESIGN CHOICE, log entry 3. -/
def portInit : Byte := 0x00#8

/-- `DIAG_ENABLED` of `State.reset` (rule R6 leaves it OPEN). DESIGN CHOICE, log entry 4. -/
def diagEnabledInit : Bool := false

/-! ### Values the spec decides -/

/-- `INTE_INIT` (rule R43, decision D15). -/
def inteInit : Bool := false

/-- `INT_VECTOR_0` (rule R282, decision D16). -/
def intVector0 : Word := 0x0008#16

/-- `INT_VECTOR_1` (rule R282, decision D16). -/
def intVector1 : Word := 0x0010#16

/-- `INT_FIRST` (rule R43, decision D16): false, so the first successful interrupt goes to `INT_VECTOR_0`. -/
def intFirst : Bool := false

/-- `DIAG_TRAP_ADDR` (rule R255, decision D20). -/
def diagTrapAddr : Word := 0x0005#16

/-- `DIAG_SEL_REG` (rule R256, decision D20). -/
def diagSelReg : R8 := .c

/-- `DIAG_SEL_STRING` (rule R256, decision D20). -/
def diagSelString : Byte := 0x09#8

/-- `DIAG_SEL_CHAR` (rule R256, decision D20). -/
def diagSelChar : Byte := 0x02#8

/-- `DIAG_STR_PAIR` (rule R257, decision D20). -/
def diagStrPair : RP := .de

/-- `DIAG_SENTINEL` (rule R257, decision D20). -/
def diagSentinel : Byte := 0x24#8

/-- `DIAG_CHAR_REG` (rule R258, decision D20). -/
def diagCharReg : R8 := .e

/-- `UNDEFINED_OPCODES` (rule R93, decision D4). -/
def undefinedOpcodes : List Byte :=
  [0x08#8, 0x10#8, 0x18#8, 0x20#8, 0x28#8, 0x30#8, 0x38#8, 0xCB#8, 0xD9#8, 0xDD#8, 0xED#8, 0xFD#8]

/-! ### Free values: no body, so that nothing can rest on what they are -/

/-- `IN0_CONST` (rule R245, decision D18): OPEN, one byte fixed for the run. Log entry 5. -/
opaque in0Const : Byte

/-- `DAA_FN` (rule R223, decision D9): OPEN, a total function of the accumulator and the five flags to the new accumulator
and the five new flags. Log entry 6. -/
opaque daaFn : Byte → Flags → Byte × Flags

/-- The draws for `AC` after an instruction that leaves it unspecified (rules R29, R135; U1). Log entry 7. -/
opaque freeAc : Nat → Bool

/-- The draws for `pc` after a terminating step (rule R273; U3). Log entry 8. -/
opaque freePc : Nat → Word

end Sys2Proof.Config
end

