-- ==== Sys2Proof/Decode.lean ====
section
/-! DEFINITION. Decoding (rules R80 to R95), total on every byte, and after it the encoder, written the other way round from
the map of rule R92. Every encoding is the spec's decision D5 (the Intel 8080's, from general knowledge): PRESUMED by the
spec itself, log entry 20. -/

namespace Sys2Proof

open Machine

/-! ### Operand codes (rules R84, R85, R86, R90) -/

/-- The 8-bit operand of a 3-bit code (rule R84). -/
def R8.ofCode : Nat → R8
  | 0 => .b | 1 => .c | 2 => .d | 3 => .e | 4 => .h | 5 => .l | 6 => .m | _ => .a

/-- The pair of a 2-bit code in LXI, INX, DCX and DAD (rule R85). -/
def RP.ofCode : Nat → RP
  | 0 => .bc | 1 => .de | 2 => .hl | _ => .sp

/-- The pair of a 2-bit code in PUSH and POP (rule R85). -/
def StackPair.ofCode : Nat → StackPair
  | 0 => .bc | 1 => .de | 2 => .hl | _ => .psw

/-- The condition of a 3-bit code (rule R86). -/
def Cond.ofCode : Nat → Cond
  | 0 => .nz | 1 => .z | 2 => .nc | 3 => .c | 4 => .po | 5 => .pe | 6 => .p | _ => .m

/-- The ALU operation of a 3-bit code (rule R90). -/
def AluOp.ofCode : Nat → AluOp
  | 0 => .add | 1 => .adc | 2 => .sub | 3 => .sbb | 4 => .ana | 5 => .xra | 6 => .ora | _ => .cmp

/-! ### The instruction of each family with given operands -/

/-- `01dddsss`: MOV ddd,sss, and HLT in the MOV M,M slot (rule R89). -/
def Instr.ofMov : R8 → R8 → Instr
  | .b, .b => .movBB | .b, .c => .movBC | .b, .d => .movBD | .b, .e => .movBE
  | .b, .h => .movBH | .b, .l => .movBL | .b, .m => .movBM | .b, .a => .movBA
  | .c, .b => .movCB | .c, .c => .movCC | .c, .d => .movCD | .c, .e => .movCE
  | .c, .h => .movCH | .c, .l => .movCL | .c, .m => .movCM | .c, .a => .movCA
  | .d, .b => .movDB | .d, .c => .movDC | .d, .d => .movDD | .d, .e => .movDE
  | .d, .h => .movDH | .d, .l => .movDL | .d, .m => .movDM | .d, .a => .movDA
  | .e, .b => .movEB | .e, .c => .movEC | .e, .d => .movED | .e, .e => .movEE
  | .e, .h => .movEH | .e, .l => .movEL | .e, .m => .movEM | .e, .a => .movEA
  | .h, .b => .movHB | .h, .c => .movHC | .h, .d => .movHD | .h, .e => .movHE
  | .h, .h => .movHH | .h, .l => .movHL | .h, .m => .movHM | .h, .a => .movHA
  | .l, .b => .movLB | .l, .c => .movLC | .l, .d => .movLD | .l, .e => .movLE
  | .l, .h => .movLH | .l, .l => .movLL | .l, .m => .movLM | .l, .a => .movLA
  | .m, .b => .movMB | .m, .c => .movMC | .m, .d => .movMD | .m, .e => .movME
  | .m, .h => .movMH | .m, .l => .movML | .m, .m => .hlt | .m, .a => .movMA
  | .a, .b => .movAB | .a, .c => .movAC | .a, .d => .movAD | .a, .e => .movAE
  | .a, .h => .movAH | .a, .l => .movAL | .a, .m => .movAM | .a, .a => .movAA

/-- `10aaasss`: the ALU operation on `A` and an 8-bit operand (rule R90). -/
def Instr.ofAlu : AluOp → R8 → Instr
  | .add, .b => .addB | .add, .c => .addC | .add, .d => .addD | .add, .e => .addE
  | .add, .h => .addH | .add, .l => .addL | .add, .m => .addM | .add, .a => .addA
  | .adc, .b => .adcB | .adc, .c => .adcC | .adc, .d => .adcD | .adc, .e => .adcE
  | .adc, .h => .adcH | .adc, .l => .adcL | .adc, .m => .adcM | .adc, .a => .adcA
  | .sub, .b => .subB | .sub, .c => .subC | .sub, .d => .subD | .sub, .e => .subE
  | .sub, .h => .subH | .sub, .l => .subL | .sub, .m => .subM | .sub, .a => .subA
  | .sbb, .b => .sbbB | .sbb, .c => .sbbC | .sbb, .d => .sbbD | .sbb, .e => .sbbE
  | .sbb, .h => .sbbH | .sbb, .l => .sbbL | .sbb, .m => .sbbM | .sbb, .a => .sbbA
  | .ana, .b => .anaB | .ana, .c => .anaC | .ana, .d => .anaD | .ana, .e => .anaE
  | .ana, .h => .anaH | .ana, .l => .anaL | .ana, .m => .anaM | .ana, .a => .anaA
  | .xra, .b => .xraB | .xra, .c => .xraC | .xra, .d => .xraD | .xra, .e => .xraE
  | .xra, .h => .xraH | .xra, .l => .xraL | .xra, .m => .xraM | .xra, .a => .xraA
  | .ora, .b => .oraB | .ora, .c => .oraC | .ora, .d => .oraD | .ora, .e => .oraE
  | .ora, .h => .oraH | .ora, .l => .oraL | .ora, .m => .oraM | .ora, .a => .oraA
  | .cmp, .b => .cmpB | .cmp, .c => .cmpC | .cmp, .d => .cmpD | .cmp, .e => .cmpE
  | .cmp, .h => .cmpH | .cmp, .l => .cmpL | .cmp, .m => .cmpM | .cmp, .a => .cmpA

/-- `11aaa110`: the ALU operation on `A` and an immediate (rule R90). -/
def Instr.ofAluImm : AluOp → Byte → Instr
  | .add, imm => .adi imm | .adc, imm => .aci imm | .sub, imm => .sui imm | .sbb, imm => .sbi imm
  | .ana, imm => .ani imm | .xra, imm => .xri imm | .ora, imm => .ori imm | .cmp, imm => .cpi imm

/-- `00ddd110`: MVI (rule R88). -/
def Instr.ofMvi : R8 → Byte → Instr
  | .b, imm => .mviB imm | .c, imm => .mviC imm | .d, imm => .mviD imm | .e, imm => .mviE imm
  | .h, imm => .mviH imm | .l, imm => .mviL imm | .m, imm => .mviM imm | .a, imm => .mviA imm

/-- `00ddd100`: INR (rule R88). -/
def Instr.ofInr : R8 → Instr
  | .b => .inrB | .c => .inrC | .d => .inrD | .e => .inrE
  | .h => .inrH | .l => .inrL | .m => .inrM | .a => .inrA

/-- `00ddd101`: DCR (rule R88). -/
def Instr.ofDcr : R8 → Instr
  | .b => .dcrB | .c => .dcrC | .d => .dcrD | .e => .dcrE
  | .h => .dcrH | .l => .dcrL | .m => .dcrM | .a => .dcrA

/-- `00pp0001`: LXI (rule R88). -/
def Instr.ofLxi : RP → Word → Instr
  | .bc, w => .lxiB w | .de, w => .lxiD w | .hl, w => .lxiH w | .sp, w => .lxiSp w

/-- `00pp0011`: INX (rule R88). -/
def Instr.ofInx : RP → Instr
  | .bc => .inxB | .de => .inxD | .hl => .inxH | .sp => .inxSp

/-- `00pp1011`: DCX (rule R88). -/
def Instr.ofDcx : RP → Instr
  | .bc => .dcxB | .de => .dcxD | .hl => .dcxH | .sp => .dcxSp

/-- `00pp1001`: DAD (rule R88). -/
def Instr.ofDad : RP → Instr
  | .bc => .dadB | .de => .dadD | .hl => .dadH | .sp => .dadSp

/-- `11pp0101`: PUSH (rule R91). -/
def Instr.ofPush : StackPair → Instr
  | .bc => .pushB | .de => .pushD | .hl => .pushH | .psw => .pushPsw

/-- `11pp0001`: POP (rule R91). -/
def Instr.ofPop : StackPair → Instr
  | .bc => .popB | .de => .popD | .hl => .popH | .psw => .popPsw

/-- `11ccc010`: the conditional jumps (rule R91). -/
def Instr.ofJcc : Cond → Word → Instr
  | .nz, w => .jnz w | .z, w => .jz w | .nc, w => .jnc w | .c, w => .jc w
  | .po, w => .jpo w | .pe, w => .jpe w | .p, w => .jp w | .m, w => .jm w

/-- `11ccc100`: the conditional calls (rule R91). -/
def Instr.ofCcc : Cond → Word → Instr
  | .nz, w => .cnz w | .z, w => .cz w | .nc, w => .cnc w | .c, w => .cc w
  | .po, w => .cpo w | .pe, w => .cpe w | .p, w => .cp w | .m, w => .cm w

/-- `11ccc000`: the conditional returns (rule R91). -/
def Instr.ofRcc : Cond → Instr
  | .nz => .rnz | .z => .rz | .nc => .rnc | .c => .rc
  | .po => .rpo | .pe => .rpe | .p => .rp | .m => .rm

/-- `11nnn111`: RST n (rule R91). -/
def Instr.ofRst : Nat → Instr
  | 0 => .rst0 | 1 => .rst1 | 2 => .rst2 | 3 => .rst3
  | 4 => .rst4 | 5 => .rst5 | 6 => .rst6 | _ => .rst7

/-! ### Decoding -/

/-- Group 00, `op[7:6] = 00` (rule R88). -/
def decodeGroup00 (op imm8 : Byte) (imm16 : Word) : Instr :=
  match opLow op with
  | 0 => if opMid op = 0 then .nop else .undefinedOp op
  | 1 => if opSide op then .ofDad (RP.ofCode (opPair op)) else .ofLxi (RP.ofCode (opPair op)) imm16
  | 2 =>
    match opMid op with
    | 0 => .staxB | 1 => .ldaxB | 2 => .staxD | 3 => .ldaxD
    | 4 => .shld imm16 | 5 => .lhld imm16 | 6 => .sta imm16 | _ => .lda imm16
  | 3 => if opSide op then .ofDcx (RP.ofCode (opPair op)) else .ofInx (RP.ofCode (opPair op))
  | 4 => .ofInr (R8.ofCode (opMid op))
  | 5 => .ofDcr (R8.ofCode (opMid op))
  | 6 => .ofMvi (R8.ofCode (opMid op)) imm8
  | _ =>
    match opMid op with
    | 0 => .rlc | 1 => .rrc | 2 => .ral | 3 => .rar | 4 => .daa | 5 => .cma | 6 => .stc | _ => .cmc

/-- Group 11, `op[7:6] = 11` (rule R91). -/
def decodeGroup11 (op imm8 : Byte) (imm16 : Word) : Instr :=
  match opLow op with
  | 0 => .ofRcc (Cond.ofCode (opMid op))
  | 1 =>
    if opSide op then
      match opPair op with
      | 0 => .ret | 1 => .undefinedOp op | 2 => .pchl | _ => .sphl
    else .ofPop (StackPair.ofCode (opPair op))
  | 2 => .ofJcc (Cond.ofCode (opMid op)) imm16
  | 3 =>
    match opMid op with
    | 0 => .jmp imm16 | 1 => .undefinedOp op | 2 => .outPort imm8 | 3 => .inPort imm8
    | 4 => .xthl | 5 => .xchg | 6 => .di | _ => .ei
  | 4 => .ofCcc (Cond.ofCode (opMid op)) imm16
  | 5 =>
    if opSide op then
      match opPair op with
      | 0 => .call imm16 | _ => .undefinedOp op
    else .ofPush (StackPair.ofCode (opPair op))
  | 6 => .ofAluImm (AluOp.ofCode (opMid op)) imm8
  | _ => .ofRst (opMid op)

/-- The instruction whose opcode byte is `op` and whose next two bytes are `b1` and `b2` (rules R83, R87): the hook's IN and OUT
first, then UNDEFINED_OPCODES, then the table. The diagnostic intercept of CALL is in the meaning of CALL. -/
def decode (op b1 b2 : Byte) : Instr :=
  if op = 0xDB#8 then .inPort b1
  else if op = 0xD3#8 then .outPort b1
  else if Config.undefinedOpcodes.contains op then .undefinedOp op
  else
    match opGroup op with
    | 0 => decodeGroup00 op b1 (mkWord b2 b1)
    | 1 => .ofMov (R8.ofCode (opMid op)) (R8.ofCode (opLow op))
    | 2 => .ofAlu (AluOp.ofCode (opMid op)) (R8.ofCode (opLow op))
    | _ => decodeGroup11 op b1 (mkWord b2 b1)

/-- The length of an instruction, a function of its first byte alone (rules R80, R95). An undefined opcode has no length in the
spec; it is the one byte it was decoded from (the table's entry for it). -/
def opLength (op : Byte) : Nat :=
  if Config.undefinedOpcodes.contains op then 1
  else
    match opGroup op with
    | 0 =>
      match opLow op with
      | 1 => if opSide op then 1 else 3
      | 2 => if 4 ≤ opMid op then 3 else 1
      | 6 => 2
      | _ => 1
    | 1 => 1
    | 2 => 1
    | _ =>
      match opLow op with
      | 2 => 3
      | 3 => if opMid op = 0 then 3 else if opMid op = 2 ∨ opMid op = 3 then 2 else 1
      | 4 => 3
      | 5 => if op = 0xCD#8 then 3 else 1
      | 6 => 2
      | _ => 1

/-- Why a sequence of bytes is no instruction. -/
inductive DecodeError where
  /-- The bytes end before the instruction does. -/
  | truncated
  deriving DecidableEq, Repr

/-- Decode the first instruction of a sequence of bytes and give back the bytes after it (rule R81). Every sequence long enough
for its first byte's length decodes (rule R94). -/
def decodeBytes : List Byte → Except DecodeError (Instr × List Byte)
  | [] => .error .truncated
  | op :: rest =>
    match opLength op, rest with
    | 1, rest => .ok (decode op 0#8 0#8, rest)
    | 2, b1 :: rest => .ok (decode op b1 0#8, rest)
    | 3, b1 :: b2 :: rest => .ok (decode op b1 b2, rest)
    | _, _ => .error .truncated

/-! ### Encoding -/

/-- A 3-byte instruction: opcode, low byte, high byte (rules R81, R87). -/
def encode3 (op : Byte) (w : Word) : List Byte := [op, loByte w, hiByte w]

/-- The bytes of an instruction, from the map of rule R92. -/
def encode : Instr → List Byte
  | .nop => [0x00#8]
  | .lxiB w => encode3 0x01#8 w
  | .staxB => [0x02#8]
  | .inxB => [0x03#8]
  | .inrB => [0x04#8]
  | .dcrB => [0x05#8]
  | .mviB imm => [0x06#8, imm]
  | .rlc => [0x07#8]
  | .dadB => [0x09#8]
  | .ldaxB => [0x0A#8]
  | .dcxB => [0x0B#8]
  | .inrC => [0x0C#8]
  | .dcrC => [0x0D#8]
  | .mviC imm => [0x0E#8, imm]
  | .rrc => [0x0F#8]
  | .lxiD w => encode3 0x11#8 w
  | .staxD => [0x12#8]
  | .inxD => [0x13#8]
  | .inrD => [0x14#8]
  | .dcrD => [0x15#8]
  | .mviD imm => [0x16#8, imm]
  | .ral => [0x17#8]
  | .dadD => [0x19#8]
  | .ldaxD => [0x1A#8]
  | .dcxD => [0x1B#8]
  | .inrE => [0x1C#8]
  | .dcrE => [0x1D#8]
  | .mviE imm => [0x1E#8, imm]
  | .rar => [0x1F#8]
  | .lxiH w => encode3 0x21#8 w
  | .shld w => encode3 0x22#8 w
  | .inxH => [0x23#8]
  | .inrH => [0x24#8]
  | .dcrH => [0x25#8]
  | .mviH imm => [0x26#8, imm]
  | .daa => [0x27#8]
  | .dadH => [0x29#8]
  | .lhld w => encode3 0x2A#8 w
  | .dcxH => [0x2B#8]
  | .inrL => [0x2C#8]
  | .dcrL => [0x2D#8]
  | .mviL imm => [0x2E#8, imm]
  | .cma => [0x2F#8]
  | .lxiSp w => encode3 0x31#8 w
  | .sta w => encode3 0x32#8 w
  | .inxSp => [0x33#8]
  | .inrM => [0x34#8]
  | .dcrM => [0x35#8]
  | .mviM imm => [0x36#8, imm]
  | .stc => [0x37#8]
  | .dadSp => [0x39#8]
  | .lda w => encode3 0x3A#8 w
  | .dcxSp => [0x3B#8]
  | .inrA => [0x3C#8]
  | .dcrA => [0x3D#8]
  | .mviA imm => [0x3E#8, imm]
  | .cmc => [0x3F#8]
  | .movBB => [0x40#8]
  | .movBC => [0x41#8]
  | .movBD => [0x42#8]
  | .movBE => [0x43#8]
  | .movBH => [0x44#8]
  | .movBL => [0x45#8]
  | .movBM => [0x46#8]
  | .movBA => [0x47#8]
  | .movCB => [0x48#8]
  | .movCC => [0x49#8]
  | .movCD => [0x4A#8]
  | .movCE => [0x4B#8]
  | .movCH => [0x4C#8]
  | .movCL => [0x4D#8]
  | .movCM => [0x4E#8]
  | .movCA => [0x4F#8]
  | .movDB => [0x50#8]
  | .movDC => [0x51#8]
  | .movDD => [0x52#8]
  | .movDE => [0x53#8]
  | .movDH => [0x54#8]
  | .movDL => [0x55#8]
  | .movDM => [0x56#8]
  | .movDA => [0x57#8]
  | .movEB => [0x58#8]
  | .movEC => [0x59#8]
  | .movED => [0x5A#8]
  | .movEE => [0x5B#8]
  | .movEH => [0x5C#8]
  | .movEL => [0x5D#8]
  | .movEM => [0x5E#8]
  | .movEA => [0x5F#8]
  | .movHB => [0x60#8]
  | .movHC => [0x61#8]
  | .movHD => [0x62#8]
  | .movHE => [0x63#8]
  | .movHH => [0x64#8]
  | .movHL => [0x65#8]
  | .movHM => [0x66#8]
  | .movHA => [0x67#8]
  | .movLB => [0x68#8]
  | .movLC => [0x69#8]
  | .movLD => [0x6A#8]
  | .movLE => [0x6B#8]
  | .movLH => [0x6C#8]
  | .movLL => [0x6D#8]
  | .movLM => [0x6E#8]
  | .movLA => [0x6F#8]
  | .movMB => [0x70#8]
  | .movMC => [0x71#8]
  | .movMD => [0x72#8]
  | .movME => [0x73#8]
  | .movMH => [0x74#8]
  | .movML => [0x75#8]
  | .hlt => [0x76#8]
  | .movMA => [0x77#8]
  | .movAB => [0x78#8]
  | .movAC => [0x79#8]
  | .movAD => [0x7A#8]
  | .movAE => [0x7B#8]
  | .movAH => [0x7C#8]
  | .movAL => [0x7D#8]
  | .movAM => [0x7E#8]
  | .movAA => [0x7F#8]
  | .addB => [0x80#8]
  | .addC => [0x81#8]
  | .addD => [0x82#8]
  | .addE => [0x83#8]
  | .addH => [0x84#8]
  | .addL => [0x85#8]
  | .addM => [0x86#8]
  | .addA => [0x87#8]
  | .adcB => [0x88#8]
  | .adcC => [0x89#8]
  | .adcD => [0x8A#8]
  | .adcE => [0x8B#8]
  | .adcH => [0x8C#8]
  | .adcL => [0x8D#8]
  | .adcM => [0x8E#8]
  | .adcA => [0x8F#8]
  | .subB => [0x90#8]
  | .subC => [0x91#8]
  | .subD => [0x92#8]
  | .subE => [0x93#8]
  | .subH => [0x94#8]
  | .subL => [0x95#8]
  | .subM => [0x96#8]
  | .subA => [0x97#8]
  | .sbbB => [0x98#8]
  | .sbbC => [0x99#8]
  | .sbbD => [0x9A#8]
  | .sbbE => [0x9B#8]
  | .sbbH => [0x9C#8]
  | .sbbL => [0x9D#8]
  | .sbbM => [0x9E#8]
  | .sbbA => [0x9F#8]
  | .anaB => [0xA0#8]
  | .anaC => [0xA1#8]
  | .anaD => [0xA2#8]
  | .anaE => [0xA3#8]
  | .anaH => [0xA4#8]
  | .anaL => [0xA5#8]
  | .anaM => [0xA6#8]
  | .anaA => [0xA7#8]
  | .xraB => [0xA8#8]
  | .xraC => [0xA9#8]
  | .xraD => [0xAA#8]
  | .xraE => [0xAB#8]
  | .xraH => [0xAC#8]
  | .xraL => [0xAD#8]
  | .xraM => [0xAE#8]
  | .xraA => [0xAF#8]
  | .oraB => [0xB0#8]
  | .oraC => [0xB1#8]
  | .oraD => [0xB2#8]
  | .oraE => [0xB3#8]
  | .oraH => [0xB4#8]
  | .oraL => [0xB5#8]
  | .oraM => [0xB6#8]
  | .oraA => [0xB7#8]
  | .cmpB => [0xB8#8]
  | .cmpC => [0xB9#8]
  | .cmpD => [0xBA#8]
  | .cmpE => [0xBB#8]
  | .cmpH => [0xBC#8]
  | .cmpL => [0xBD#8]
  | .cmpM => [0xBE#8]
  | .cmpA => [0xBF#8]
  | .rnz => [0xC0#8]
  | .popB => [0xC1#8]
  | .jnz w => encode3 0xC2#8 w
  | .jmp w => encode3 0xC3#8 w
  | .cnz w => encode3 0xC4#8 w
  | .pushB => [0xC5#8]
  | .adi imm => [0xC6#8, imm]
  | .rst0 => [0xC7#8]
  | .rz => [0xC8#8]
  | .ret => [0xC9#8]
  | .jz w => encode3 0xCA#8 w
  | .cz w => encode3 0xCC#8 w
  | .call w => encode3 0xCD#8 w
  | .aci imm => [0xCE#8, imm]
  | .rst1 => [0xCF#8]
  | .rnc => [0xD0#8]
  | .popD => [0xD1#8]
  | .jnc w => encode3 0xD2#8 w
  | .outPort imm => [0xD3#8, imm]
  | .cnc w => encode3 0xD4#8 w
  | .pushD => [0xD5#8]
  | .sui imm => [0xD6#8, imm]
  | .rst2 => [0xD7#8]
  | .rc => [0xD8#8]
  | .jc w => encode3 0xDA#8 w
  | .inPort imm => [0xDB#8, imm]
  | .cc w => encode3 0xDC#8 w
  | .sbi imm => [0xDE#8, imm]
  | .rst3 => [0xDF#8]
  | .rpo => [0xE0#8]
  | .popH => [0xE1#8]
  | .jpo w => encode3 0xE2#8 w
  | .xthl => [0xE3#8]
  | .cpo w => encode3 0xE4#8 w
  | .pushH => [0xE5#8]
  | .ani imm => [0xE6#8, imm]
  | .rst4 => [0xE7#8]
  | .rpe => [0xE8#8]
  | .pchl => [0xE9#8]
  | .jpe w => encode3 0xEA#8 w
  | .xchg => [0xEB#8]
  | .cpe w => encode3 0xEC#8 w
  | .xri imm => [0xEE#8, imm]
  | .rst5 => [0xEF#8]
  | .rp => [0xF0#8]
  | .popPsw => [0xF1#8]
  | .jp w => encode3 0xF2#8 w
  | .di => [0xF3#8]
  | .cp w => encode3 0xF4#8 w
  | .pushPsw => [0xF5#8]
  | .ori imm => [0xF6#8, imm]
  | .rst6 => [0xF7#8]
  | .rm => [0xF8#8]
  | .sphl => [0xF9#8]
  | .jm w => encode3 0xFA#8 w
  | .ei => [0xFB#8]
  | .cm w => encode3 0xFC#8 w
  | .cpi imm => [0xFE#8, imm]
  | .rst7 => [0xFF#8]
  | .undefinedOp op => [op]

/-- Byte `k` of an instruction word numbered as spec/opcode_table.json numbers its bits: byte 0 is the opcode byte; every bit
from `nbits` up is 0. -/
def tableByte (nbits w k : Nat) : Byte := BitVec.ofNat 8 ((w % 2 ^ nbits) >>> (8 * k))

/-- The instruction the decoder reads from a word of spec/opcode_table.json (operand bytes the table gives no bits are 0). -/
def decodeTableWord (nbits w : Nat) : Option Instr :=
  match decodeBytes [tableByte nbits w 0, tableByte nbits w 1, tableByte nbits w 2] with
  | .ok (i, _) => some i
  | .error _ => none

end Sys2Proof
end

