-- ==== Sys2Proof/Machine/State.lean ====
section
/-! DEFINITION. The state of the core as plain data: every piece of rules R20 to R42, the run's `DIAG_ENABLED`, and the model's
own `draws`, `sched` and `started`; why a step can stop; and the state after creation (rules R43, R310). -/

namespace Sys2Proof.Machine

/-- The memory: (address, byte) pairs with rising addresses below 65,536, none equal to what an unlisted address reads as
(`Config.memInit`). -/
abbrev Memory := List Host.Cell

/-- The termination cause (rules R36, R271). -/
inductive Cause where
  | running
  | unsupportedOpcode
  | resetJump
  deriving DecidableEq, Repr

/-- Whether an unmapped port was addressed by IN or by OUT (rule R271). -/
inductive PortDir where
  | input
  | output
  deriving DecidableEq, Repr

/-- What is recorded with the cause (rule R271). -/
inductive Info where
  /-- the opcode byte, of an undefined opcode or of a reset-jump -/
  | opcode (op : Byte)
  /-- IN or OUT and the unmapped port -/
  | port (dir : PortDir) (p : Byte)
  deriving DecidableEq, Repr

/-- One turn of the schedule by which the two agents of rule R11 act: the core, or one action of the host (rule R320). -/
inductive Turn where
  /-- the host calls `step` once (rule R321) -/
  | core
  /-- the host calls `interrupt` (rule R282) -/
  | interrupt
  /-- the host writes one entry of the port array (rule R322) -/
  | writePort (i : Fin 8) (v : Byte)
  /-- the host copies bytes into memory from a base address (rule R312) -/
  | load (base : Nat) (bytes : List Byte)
  deriving DecidableEq, Repr

/-- The state of the machine. -/
@[ext]
structure State where
  /-- accumulator `A` (rule R20) -/
  a : Byte
  /-- register `B` (rule R20) -/
  b : Byte
  /-- register `C` (rule R20) -/
  c : Byte
  /-- register `D` (rule R20) -/
  d : Byte
  /-- register `E` (rule R20) -/
  e : Byte
  /-- register `H` (rule R20) -/
  h : Byte
  /-- register `L` (rule R20) -/
  l : Byte
  /-- the five flags `CY`, `Z`, `S`, `P`, `AC` (rule R25) -/
  flags : Flags
  /-- program counter (rule R30) -/
  pc : Word
  /-- stack pointer (rule R23) -/
  sp : Word
  /-- interrupts enabled (rule R35) -/
  inte : Bool
  /-- terminal exit flag (rule R36) -/
  exit : Bool
  /-- termination cause (rule R36) -/
  cause : Cause
  /-- what was recorded with the cause; `none` while the run goes on (rule R271) -/
  info : Option Info
  /-- memory `Mem` (rule R37) -/
  mem : Memory
  /-- port array `port[0..7]` (rule R39) -/
  ports : Vector Byte 8
  /-- shift register, high latch `sh_hi` (rule R40) -/
  shHi : Byte
  /-- shift register, low latch `sh_lo` (rule R40) -/
  shLo : Byte
  /-- shift register, offset `sh_off` (rule R40) -/
  shOff : BitVec 3
  /-- diagnostic output buffer `diag`, oldest byte first (rule R41) -/
  diag : List Byte
  /-- interrupt-vector alternation bit `ivsel` (rule R42) -/
  ivsel : Bool
  /-- the parameter `DIAG_ENABLED` of the run (rules R6, R255); nothing writes it -/
  diagEnabled : Bool
  /-- the model's own: how many free values have been drawn (log entries 7, 8) -/
  draws : Nat
  /-- the model's own: the turns still to come, first one first; when it is empty the core steps (log entry 9) -/
  sched : List Turn
  /-- the model's own: the core has begun its first step, after which `load` is over (rule R312, log entry 10) -/
  started : Bool
  deriving DecidableEq, Repr

/-- Why the machine stops with a fault. -/
inductive Fault where
  /-- Raised by `State.coreTurn` (Machine/Ops.lean) in a state with `exit = 1`: the run is over and no step exists (rules R13, R321;
  U13 `stuck`). Safe: the hardware takes no step there. -/
  | runOver
  deriving DecidableEq, Repr

/-- Why the model gives a step no meaning. -/
inductive Refusal where
  /-- Raised by an arm of `exec` whose instruction has no meaning yet. Safe: nothing can be proved of a next state. -/
  | notModelled (mnemonic : String)
  /-- Raised by the diagnostic intercept of CALL when its string has no sentinel anywhere in memory (rule R257; U7 `refuse`).
  Safe: the spec leaves the case outside. -/
  | diagStringUnterminated
  /-- Raised by the host's `load` when `base_address + length > 65536` (rule R312; U12 `refuse`). Safe: the spec gives the call
  no meaning. -/
  | loadOutsideMemory
  /-- Raised by the host's `load` after the core has begun its first step, which rule R312 and rule R70 exclude. Safe: the spec
  gives the call no meaning. -/
  | loadAfterFirstStep
  deriving DecidableEq, Repr

/-- What one step, or one instruction, answers. -/
abbrev Result := Host.Outcome State Fault Refusal

/-- The state `create` hands out (rules R43, R310, R320): registers, flags and latches zero, interrupts disabled, the run not
ended, with the parameters the spec leaves OPEN and the port array's contents, which it leaves unspecified, as arguments. -/
def State.create (pcInit spInit : Word) (memInit : Memory) (ports : Vector Byte 8) (diagEnabled : Bool) : State where
  a := 0x00#8
  b := 0x00#8
  c := 0x00#8
  d := 0x00#8
  e := 0x00#8
  h := 0x00#8
  l := 0x00#8
  flags := { cy := false, z := false, s := false, p := false, ac := false }
  pc := pcInit
  sp := spInit
  inte := Config.inteInit
  exit := false
  cause := .running
  info := none
  mem := memInit
  ports := ports
  shHi := 0x00#8
  shLo := 0x00#8
  shOff := 0#3
  diag := []
  ivsel := Config.intFirst
  diagEnabled := diagEnabled
  draws := 0
  sched := []
  started := false

/-- The machine right after reset: `State.create` at the values the model names for the OPEN parameters (log entries 1 to 4),
with nothing written to memory yet. -/
def State.reset : State :=
  State.create Config.pcInit Config.spInit [] (Vector.replicate 8 Config.portInit) Config.diagEnabledInit

end Sys2Proof.Machine
end

