-- ==== Sys2Proof/Machine/Ops.lean ====
section
/-! DEFINITION. The named operations over memory, the stack and the program counter (20_memory.md, 10_state.md section 3), the
two ways control leaves the program's own flow: termination and interrupt entry (60_exceptions.md), with the return beside them,
and the host's `load` (rule R312). -/

namespace Sys2Proof.Machine

/-! ### Memory: one byte -/

/-- The byte at an address: the listed one, or `Config.memInit` (rules R50, R53). -/
def Memory.read : Memory → Nat → Byte
  | [], _ => Config.memInit
  | (k, v) :: m, a => if k = a then v else Memory.read m a

/-- The memory with nothing listed at `a`. -/
def Memory.erase : Memory → Nat → Memory
  | [], _ => []
  | (k, v) :: m, a => if k = a then Memory.erase m a else (k, v) :: Memory.erase m a

/-- List `v` at `a`, before the first higher address. -/
def Memory.insert : Memory → Nat → Byte → Memory
  | [], a, v => [(a, v)]
  | (k, w) :: m, a, v => if a < k then (a, v) :: (k, w) :: m else (k, w) :: Memory.insert m a v

/-- Write one byte, keeping the canonical form (rules R50, R54). -/
def Memory.write (m : Memory) (a : Nat) (v : Byte) : Memory :=
  if v = Config.memInit then Memory.erase m a else Memory.insert (Memory.erase m a) a v

/-- Write bytes at rising addresses, the first at `a` (rule R312). -/
def Memory.writeAll : Memory → Nat → List Byte → Memory
  | m, _, [] => m
  | m, a, v :: vs => Memory.writeAll (Memory.write m a v) (a + 1) vs

/-- The addresses are at least `lo`, strictly rising and below 65,536, and no entry equals what an unlisted address reads as. -/
def Memory.wfFrom : Nat → Memory → Bool
  | _, [] => true
  | lo, (k, v) :: m => decide (lo ≤ k) && decide (k < 65536) && decide (v ≠ Config.memInit) && Memory.wfFrom (k + 1) m

/-- The memory is in its canonical form. -/
def Memory.wf (m : Memory) : Bool := Memory.wfFrom 0 m

/-! ### Memory: the primitives of rules R53 and R54 -/

/-- `MemRead(addr, 1)` (rule R53). -/
def State.readByte (s : State) (addr : Word) : Byte := Memory.read s.mem addr.toNat

/-- `MemRead(addr, 2)`: the byte at the lower address is the low half, and the address wraps (rules R53, R57). -/
def State.readWord (s : State) (addr : Word) : Word := mkWord (s.readByte (addr + 1#16)) (s.readByte addr)

/-- `MemWrite(addr, 1, v)` (rule R54). -/
def State.writeByte (addr : Word) (v : Byte) (s : State) : State := { s with mem := Memory.write s.mem addr.toNat v }

/-- `MemWrite(addr, 2, v)`: low half at `addr`, then high half at `addr + 1`, which wraps (rules R54, R57). -/
def State.writeWord (addr : Word) (v : Word) (s : State) : State :=
  (s.writeByte addr (loByte v)).writeByte (addr + 1#16) (hiByte v)

/-! ### The stack (rules R58, R59) -/

/-- `sp <- v` (rule R23). -/
def State.setSp (v : Word) (s : State) : State := { s with sp := v }

/-- `Push16(v)`: high byte first, `sp` pre-decremented before each byte write (rule R58). -/
def State.push16 (v : Word) (s : State) : State :=
  (((s.setSp (s.sp - 1#16)).writeByte (s.sp - 1#16) (hiByte v)).setSp (s.sp - 1#16 - 1#16)).writeByte (s.sp - 1#16 - 1#16) (loByte v)

/-- The word on top of the stack, low byte at `sp` (rule R59). -/
def State.top (s : State) : Word := s.readWord s.sp

/-- `sp` after `Pop16()` (rule R59). -/
def State.drop (s : State) : State := s.setSp (s.sp + 2#16)

/-! ### The program counter -/

/-- `pc <- pc + n`, modulo 2^16 (rules R31, R32). -/
def State.advance (n : Word) (s : State) : State := { s with pc := s.pc + n }

/-- `pc <- target` (rule R31). -/
def State.setPc (target : Word) (s : State) : State := { s with pc := target }

/-! ### Termination, interrupt entry, return -/

/-- `raise Terminate(cause, info)` (rules R272, R273): only `exit`, `cause` and `info` change, and `pc` is left holding a free
value (U3, log entry 8). -/
def State.terminate (cause : Cause) (info : Info) (s : State) : State :=
  { s with exit := true, cause := cause, info := some info, pc := Config.freePc s.draws, draws := s.draws + 1 }

/-- `inte <- 0; pc <- the vector ivsel selects; ivsel <- ~ivsel`: the entry of rule R282 but for its push. -/
def State.vectored (s : State) : State :=
  { s with inte := false, pc := if s.ivsel then Config.intVector1 else Config.intVector0, ivsel := !s.ivsel }

/-- The entry of a successful interrupt: disable interrupts, push `pc`, go to the vector `ivsel` selects, toggle `ivsel`
(rule R282). -/
def State.enterInterrupt (s : State) : State := (State.push16 s.pc s).vectored

/-- `interrupt()`: nothing when the run is over (rule R281) or interrupts are disabled (rule R283), else the entry
(rule R282). -/
def State.interrupt (s : State) : State :=
  if s.exit then s else if s.inte then s.enterInterrupt else s

/-- The return from a call, a restart or an interrupt: `pc <- Pop16()`; it does not touch `inte` (rules R186, R287). -/
def State.popPc (s : State) : State := s.drop.setPc s.top

/-- A call of any kind: push the return address, go to the target (rules R184, R185, R188). -/
def State.callTo (ret target : Word) (s : State) : State := (State.push16 ret s).setPc target

/-- The kinds of transfer the document calls a jump (rule R189). -/
inductive JumpKind where
  | jmp
  | jcc
  | pchl
  deriving DecidableEq, Repr

/-- `RESET_JUMP_OPS` (rule R189, decision D11): JMP and a taken Jcc, not PCHL (rule R213, log entry 11). -/
def JumpKind.resetJump : JumpKind → Bool
  | .jmp => true
  | .jcc => true
  | .pchl => false

/-- A jump that is taken: the reset-jump check, then `pc <- target` (rules R182, R183, R189, R213, R276). `op` is the opcode
byte the termination records. -/
def State.jumpTo (kind : JumpKind) (op : Byte) (target : Word) (s : State) : State :=
  if kind.resetJump && decide (target = 0x0000#16) then s.terminate .resetJump (.opcode op) else s.setPc target

/-! ### Fetching and the core's turn -/

/-- The instruction at `pc`: its bytes are at `pc`, `pc + 1` and `pc + 2`, modulo 2^16 (rules R32, R81, R83). -/
def State.fetch (s : State) : Instr := decode (s.readByte s.pc) (s.readByte (s.pc + 1#16)) (s.readByte (s.pc + 2#16))

/-! ### The host's actions (rules R312, R320, R322) -/

/-- `load(base, bytes)` (rule R312): before the first step only, and refused outside memory. -/
def State.load (base : Nat) (bytes : List Byte) (s : State) : Result :=
  if s.started then .refused .loadAfterFirstStep
  else if base + bytes.length ≤ 65536 then .next { s with mem := Memory.writeAll s.mem base bytes }
  else .refused .loadOutsideMemory

/-- The host writes `port[i]` (rule R322). -/
def State.writePort (i : Fin 8) (v : Byte) (s : State) : State := { s with ports := s.ports.set i v }

/-! ### Whose turn it is (rules R11, R13, R281, R320, R321) -/

/-- The first turn is taken off the schedule (log entry 9). -/
def State.takeTurn (s : State) : State := { s with sched := s.sched.tail }

/-- The state in which the core begins its step: the turn is taken off the schedule, and loading is over (log entries 9,
10). -/
def State.beginStep (s : State) : State := { s with sched := s.sched.tail, started := true }

/-- The core's turn: in a state with `exit = 1` there is no step (rules R13, R321), otherwise the state in which the core
executes the instruction at `pc`. -/
def State.coreTurn (s : State) : Result ⊕ State :=
  if s.exit then .inl (.fault .runOver) else .inr s.beginStep

/-- The next turn of the schedule: the answer to a host action, or the state in which the core executes the instruction at
`pc`. With no turn left the core steps. -/
def State.nextTurn (s : State) : Result ⊕ State :=
  match s.sched with
  | [] => s.coreTurn
  | .core :: _ => s.coreTurn
  | .interrupt :: _ => .inl (.next s.takeTurn.interrupt)
  | .writePort i v :: _ => .inl (.next (s.takeTurn.writePort i v))
  | .load base bytes :: _ => .inl (s.takeTurn.load base bytes)

/-- The state in which the very next step is a core step that fetches the bytes `bytes` at `pc`: the bytes are in memory, the
schedule is empty and the run has not ended. -/
def State.placeBytes (bytes : List Byte) (s : State) : State :=
  { s with
    mem := (bytes.foldl (fun (p : Word × Memory) v => (p.1 + 1#16, Memory.write p.2 p.1.toNat v)) (s.pc, s.mem)).2
    sched := []
    exit := false
    cause := .running
    info := none }

end Sys2Proof.Machine
end

