-- ==== Sys2Proof/Machine/Operands.lean ====
section
/-! DEFINITION. The operand forms: pair views (rule R21), 8-bit operands with `M` as memory at HL (rule R84), 16-bit operands
(rule R85). -/

namespace Sys2Proof.Machine

/-- `BC = B ++ C` (rule R21). -/
def State.bc (s : State) : Word := mkWord s.b s.c

/-- `DE = D ++ E` (rule R21). -/
def State.de (s : State) : Word := mkWord s.d s.e

/-- `HL = H ++ L` (rule R21). -/
def State.hl (s : State) : Word := mkWord s.h s.l

/-- `BC <- v`: both halves (rule R21). -/
def State.setBc (v : Word) (s : State) : State := { s with b := hiByte v, c := loByte v }

/-- `DE <- v`: both halves (rule R21). -/
def State.setDe (v : Word) (s : State) : State := { s with d := hiByte v, e := loByte v }

/-- `HL <- v`: both halves (rule R21). -/
def State.setHl (v : Word) (s : State) : State := { s with h := hiByte v, l := loByte v }

/-- `R8[r]` (rule R84). -/
def State.get8 (r : R8) (s : State) : Byte :=
  match r with
  | .b => s.b
  | .c => s.c
  | .d => s.d
  | .e => s.e
  | .h => s.h
  | .l => s.l
  | .m => s.readByte s.hl
  | .a => s.a

/-- `R8[r] <- v` (rule R84). -/
def State.set8 (r : R8) (v : Byte) (s : State) : State :=
  match r with
  | .b => { s with b := v }
  | .c => { s with c := v }
  | .d => { s with d := v }
  | .e => { s with e := v }
  | .h => { s with h := v }
  | .l => { s with l := v }
  | .m => s.writeByte s.hl v
  | .a => { s with a := v }

/-- `RP[p]` of LXI, INX, DCX, DAD, LDAX and STAX (rule R85). -/
def State.get16 (p : RP) (s : State) : Word :=
  match p with
  | .bc => s.bc
  | .de => s.de
  | .hl => s.hl
  | .sp => s.sp

/-- `RP[p] <- v` (rule R85). -/
def State.set16 (p : RP) (v : Word) (s : State) : State :=
  match p with
  | .bc => s.setBc v
  | .de => s.setDe v
  | .hl => s.setHl v
  | .sp => s.setSp v

end Sys2Proof.Machine
end

