-- ==== Sys2Proof/Machine/Flags.lean ====
section
/-! DEFINITION. The arithmetic and flag engine (rules R130 to R137), the condition predicates (rule R181) and the packed flag
byte (rule R28). -/

namespace Sys2Proof.Machine

/-- `parity(v)`: true exactly for an even number of 1 bits (rule R132). -/
def parity (v : Byte) : Bool :=
  !(v.getLsbD 7 ^^ v.getLsbD 6 ^^ v.getLsbD 5 ^^ v.getLsbD 4 ^^ v.getLsbD 3 ^^ v.getLsbD 2 ^^ v.getLsbD 1 ^^ v.getLsbD 0)

/-- `ZSP(v)`: Z, S and P of a result's low byte (rule R131). -/
def zspFlags (v : Byte) (f : Flags) : Flags :=
  { f with z := decide (v = 0x00#8), s := v.getLsbD 7, p := parity v }

/-- A carry or borrow in, as a 16-bit value. -/
def carryIn (cy : Bool) : Word := if cy then 1#16 else 0#16

/-- The widened intermediate `w`, unsigned and modulo 2^16 (rules R130, R138 to R152). -/
def aluWide (op : AluOp) (x y : Byte) (cy : Bool) : Word :=
  match op with
  | .add => x.setWidth 16 + y.setWidth 16
  | .adc => x.setWidth 16 + y.setWidth 16 + carryIn cy
  | .sub => x.setWidth 16 - y.setWidth 16
  | .sbb => x.setWidth 16 - y.setWidth 16 - carryIn cy
  | .ana => (x &&& y).setWidth 16
  | .xra => (x ^^^ y).setWidth 16
  | .ora => (x ||| y).setWidth 16
  | .cmp => x.setWidth 16 - y.setWidth 16

/-- `CY` from the widened result: `w > 0x00FF`, and always 0 after a logical operation (rules R133, R134). -/
def aluCarry (op : AluOp) (w : Word) : Bool :=
  match op with
  | .add => decide (0x00FF#16 < w)
  | .adc => decide (0x00FF#16 < w)
  | .sub => decide (0x00FF#16 < w)
  | .sbb => decide (0x00FF#16 < w)
  | .ana => false
  | .xra => false
  | .ora => false
  | .cmp => decide (0x00FF#16 < w)

/-- Compare leaves the accumulator unchanged (rule R152). -/
def aluKeepsA : AluOp → Bool
  | .add => false
  | .adc => false
  | .sub => false
  | .sbb => false
  | .ana => false
  | .xra => false
  | .ora => false
  | .cmp => true

/-- `AC` left holding an unspecified value: a draw (rules R29, R135; U1, log entry 7). -/
def State.drawAc (s : State) : State :=
  { s with flags := { s.flags with ac := Config.freeAc s.draws }, draws := s.draws + 1 }

/-- One ALU operation of `A` with `y`: `w`, then A, ZSP, CY, and AC unspecified (rules R130 to R136). -/
def State.alu (op : AluOp) (y : Byte) (s : State) : State :=
  let w := aluWide op s.a y s.flags.cy
  State.drawAc
    { s with
      a := if aluKeepsA op then s.a else loByte w
      flags := { zspFlags (loByte w) s.flags with cy := aluCarry op w } }

/-- The flags after an 8-bit increment or decrement that gave `v`: ZSP, CY unchanged, AC unspecified (rules R154, R155). -/
def State.stepFlags (v : Byte) (s : State) : State :=
  State.drawAc { s with flags := zspFlags v s.flags }

/-- `CY <- v`, no other flag (rules R170, R221, R222, R158). -/
def State.setCy (v : Bool) (s : State) : State := { s with flags := { s.flags with cy := v } }

/-- `cond(ccc)` (rule R181). -/
def condHolds (cc : Cond) (f : Flags) : Bool :=
  match cc with
  | .nz => !f.z
  | .z => f.z
  | .nc => !f.cy
  | .c => f.cy
  | .po => !f.p
  | .pe => f.p
  | .p => !f.s
  | .m => f.s

/-- `FlagByte() = S ++ Z ++ 0 ++ AC ++ 0 ++ P ++ 1 ++ CY` (rule R28, `PSW_LAYOUT`). -/
def flagByte (f : Flags) : Byte :=
  BitVec.ofBool f.s ++ BitVec.ofBool f.z ++ 0#1 ++ BitVec.ofBool f.ac ++ 0#1 ++ BitVec.ofBool f.p ++ 1#1 ++ BitVec.ofBool f.cy

/-- The flags of a popped flag byte; bits 5, 3 and 1 are ignored (rules R28, R198). -/
def flagsOfByte (v : Byte) : Flags :=
  { s := v.getLsbD 7, z := v.getLsbD 6, ac := v.getLsbD 4, p := v.getLsbD 2, cy := v.getLsbD 0 }

/-- What PUSH takes: a pair, or `A ++ FlagByte()` (rules R85, R195, R196). -/
def State.getStack (p : StackPair) (s : State) : Word :=
  match p with
  | .bc => s.bc
  | .de => s.de
  | .hl => s.hl
  | .psw => mkWord s.a (flagByte s.flags)

/-- What POP loads: a pair, or `A` and the five flags (rules R85, R197, R198). -/
def State.setStack (p : StackPair) (v : Word) (s : State) : State :=
  match p with
  | .bc => s.setBc v
  | .de => s.setDe v
  | .hl => s.setHl v
  | .psw => { s with a := hiByte v, flags := flagsOfByte (loByte v) }

end Sys2Proof.Machine
end

