-- ==== Sys2Proof/Machine/Arith.lean ====
section
/-! DEFINITION. The arithmetic and logic instructions (41_arithmetic_logic.md), over the flag engine of Flags.lean. -/

namespace Sys2Proof.Machine

/-- An ALU operation of `A` with a register or `M`: one byte (rule R136). -/
def State.aluReg (op : AluOp) (r : R8) (s : State) : State := (s.alu op (s.get8 r)).advance 1#16

/-- An ALU operation of `A` with an immediate: two bytes (rule R136). -/
def State.aluImm (op : AluOp) (imm : Byte) (s : State) : State := (s.alu op imm).advance 2#16

/-- `v <- (R8[ddd] + 1) mod 256; R8[ddd] <- v; ZSP(v); pc <- pc + 1` (rule R154). -/
def State.inr (dst : R8) (s : State) : State := ((s.set8 dst (s.get8 dst + 1#8)).stepFlags (s.get8 dst + 1#8)).advance 1#16

/-- `v <- (R8[ddd] - 1) mod 256; R8[ddd] <- v; ZSP(v); pc <- pc + 1` (rule R155). -/
def State.dcr (dst : R8) (s : State) : State := ((s.set8 dst (s.get8 dst - 1#8)).stepFlags (s.get8 dst - 1#8)).advance 1#16

/-- `RP[pp] <- (RP[pp] + 1) mod 2^16; pc <- pc + 1`, no flag (rule R156). -/
def State.inx (p : RP) (s : State) : State := (s.set16 p (s.get16 p + 1#16)).advance 1#16

/-- `RP[pp] <- (RP[pp] - 1) mod 2^16; pc <- pc + 1`, no flag (rule R157). -/
def State.dcx (p : RP) (s : State) : State := (s.set16 p (s.get16 p - 1#16)).advance 1#16

/-- The 17-bit sum `t` of DAD (rule R158). -/
def dadSum (x y : Word) : BitVec 17 := x.setWidth 17 + y.setWidth 17

/-- `HL <- t[15:0]; CY <- t[16]; pc <- pc + 1` (rule R158). -/
def State.dad (p : RP) (s : State) : State :=
  let t := dadSum s.hl (s.get16 p)
  ((s.setHl (t.setWidth 16)).setCy (t.getLsbD 16)).advance 1#16

/-- ADD B (rule R138). -/
def execAddB (s : State) : Result := .next (s.aluReg .add .b)

/-- ADD C (rule R138). -/
def execAddC (s : State) : Result := .next (s.aluReg .add .c)

/-- ADD D (rule R138). -/
def execAddD (s : State) : Result := .next (s.aluReg .add .d)

/-- ADD E (rule R138). -/
def execAddE (s : State) : Result := .next (s.aluReg .add .e)

/-- ADD H (rule R138). -/
def execAddH (s : State) : Result := .next (s.aluReg .add .h)

/-- ADD L (rule R138). -/
def execAddL (s : State) : Result := .next (s.aluReg .add .l)

/-- ADD M (rule R138). -/
def execAddM (s : State) : Result := .next (s.aluReg .add .m)

/-- ADD A (rule R138). -/
def execAddA (s : State) : Result := .next (s.aluReg .add .a)

/-- ADI imm8 (rule R139). -/
def execAdi (imm : Byte) (s : State) : Result := .next (s.aluImm .add imm)

/-- ADC B (rule R140). -/
def execAdcB (s : State) : Result := .next (s.aluReg .adc .b)

/-- ADC C (rule R140). -/
def execAdcC (s : State) : Result := .next (s.aluReg .adc .c)

/-- ADC D (rule R140). -/
def execAdcD (s : State) : Result := .next (s.aluReg .adc .d)

/-- ADC E (rule R140). -/
def execAdcE (s : State) : Result := .next (s.aluReg .adc .e)

/-- ADC H (rule R140). -/
def execAdcH (s : State) : Result := .next (s.aluReg .adc .h)

/-- ADC L (rule R140). -/
def execAdcL (s : State) : Result := .next (s.aluReg .adc .l)

/-- ADC M (rule R140). -/
def execAdcM (s : State) : Result := .next (s.aluReg .adc .m)

/-- ADC A (rule R140). -/
def execAdcA (s : State) : Result := .next (s.aluReg .adc .a)

/-- ACI imm8 (rule R141). -/
def execAci (imm : Byte) (s : State) : Result := .next (s.aluImm .adc imm)

/-- SUB B (rule R142). -/
def execSubB (s : State) : Result := .next (s.aluReg .sub .b)

/-- SUB C (rule R142). -/
def execSubC (s : State) : Result := .next (s.aluReg .sub .c)

/-- SUB D (rule R142). -/
def execSubD (s : State) : Result := .next (s.aluReg .sub .d)

/-- SUB E (rule R142). -/
def execSubE (s : State) : Result := .next (s.aluReg .sub .e)

/-- SUB H (rule R142). -/
def execSubH (s : State) : Result := .next (s.aluReg .sub .h)

/-- SUB L (rule R142). -/
def execSubL (s : State) : Result := .next (s.aluReg .sub .l)

/-- SUB M (rule R142). -/
def execSubM (s : State) : Result := .next (s.aluReg .sub .m)

/-- SUB A (rule R142). -/
def execSubA (s : State) : Result := .next (s.aluReg .sub .a)

/-- SUI imm8 (rule R143). -/
def execSui (imm : Byte) (s : State) : Result := .next (s.aluImm .sub imm)

/-- SBB B (rule R144). -/
def execSbbB (s : State) : Result := .next (s.aluReg .sbb .b)

/-- SBB C (rule R144). -/
def execSbbC (s : State) : Result := .next (s.aluReg .sbb .c)

/-- SBB D (rule R144). -/
def execSbbD (s : State) : Result := .next (s.aluReg .sbb .d)

/-- SBB E (rule R144). -/
def execSbbE (s : State) : Result := .next (s.aluReg .sbb .e)

/-- SBB H (rule R144). -/
def execSbbH (s : State) : Result := .next (s.aluReg .sbb .h)

/-- SBB L (rule R144). -/
def execSbbL (s : State) : Result := .next (s.aluReg .sbb .l)

/-- SBB M (rule R144). -/
def execSbbM (s : State) : Result := .next (s.aluReg .sbb .m)

/-- SBB A (rule R144). -/
def execSbbA (s : State) : Result := .next (s.aluReg .sbb .a)

/-- SBI imm8 (rule R145). -/
def execSbi (imm : Byte) (s : State) : Result := .next (s.aluImm .sbb imm)

/-- ANA B (rule R146). -/
def execAnaB (s : State) : Result := .next (s.aluReg .ana .b)

/-- ANA C (rule R146). -/
def execAnaC (s : State) : Result := .next (s.aluReg .ana .c)

/-- ANA D (rule R146). -/
def execAnaD (s : State) : Result := .next (s.aluReg .ana .d)

/-- ANA E (rule R146). -/
def execAnaE (s : State) : Result := .next (s.aluReg .ana .e)

/-- ANA H (rule R146). -/
def execAnaH (s : State) : Result := .next (s.aluReg .ana .h)

/-- ANA L (rule R146). -/
def execAnaL (s : State) : Result := .next (s.aluReg .ana .l)

/-- ANA M (rule R146). -/
def execAnaM (s : State) : Result := .next (s.aluReg .ana .m)

/-- ANA A (rule R146). -/
def execAnaA (s : State) : Result := .next (s.aluReg .ana .a)

/-- ANI imm8 (rule R147). -/
def execAni (imm : Byte) (s : State) : Result := .next (s.aluImm .ana imm)

/-- XRA B (rule R148). -/
def execXraB (s : State) : Result := .next (s.aluReg .xra .b)

/-- XRA C (rule R148). -/
def execXraC (s : State) : Result := .next (s.aluReg .xra .c)

/-- XRA D (rule R148). -/
def execXraD (s : State) : Result := .next (s.aluReg .xra .d)

/-- XRA E (rule R148). -/
def execXraE (s : State) : Result := .next (s.aluReg .xra .e)

/-- XRA H (rule R148). -/
def execXraH (s : State) : Result := .next (s.aluReg .xra .h)

/-- XRA L (rule R148). -/
def execXraL (s : State) : Result := .next (s.aluReg .xra .l)

/-- XRA M (rule R148). -/
def execXraM (s : State) : Result := .next (s.aluReg .xra .m)

/-- XRA A (rule R148). -/
def execXraA (s : State) : Result := .next (s.aluReg .xra .a)

/-- XRI imm8 (rule R149). -/
def execXri (imm : Byte) (s : State) : Result := .next (s.aluImm .xra imm)

/-- ORA B (rule R150). -/
def execOraB (s : State) : Result := .next (s.aluReg .ora .b)

/-- ORA C (rule R150). -/
def execOraC (s : State) : Result := .next (s.aluReg .ora .c)

/-- ORA D (rule R150). -/
def execOraD (s : State) : Result := .next (s.aluReg .ora .d)

/-- ORA E (rule R150). -/
def execOraE (s : State) : Result := .next (s.aluReg .ora .e)

/-- ORA H (rule R150). -/
def execOraH (s : State) : Result := .next (s.aluReg .ora .h)

/-- ORA L (rule R150). -/
def execOraL (s : State) : Result := .next (s.aluReg .ora .l)

/-- ORA M (rule R150). -/
def execOraM (s : State) : Result := .next (s.aluReg .ora .m)

/-- ORA A (rule R150). -/
def execOraA (s : State) : Result := .next (s.aluReg .ora .a)

/-- ORI imm8 (rule R151). -/
def execOri (imm : Byte) (s : State) : Result := .next (s.aluImm .ora imm)

/-- CMP B (rule R152). -/
def execCmpB (s : State) : Result := .next (s.aluReg .cmp .b)

/-- CMP C (rule R152). -/
def execCmpC (s : State) : Result := .next (s.aluReg .cmp .c)

/-- CMP D (rule R152). -/
def execCmpD (s : State) : Result := .next (s.aluReg .cmp .d)

/-- CMP E (rule R152). -/
def execCmpE (s : State) : Result := .next (s.aluReg .cmp .e)

/-- CMP H (rule R152). -/
def execCmpH (s : State) : Result := .next (s.aluReg .cmp .h)

/-- CMP L (rule R152). -/
def execCmpL (s : State) : Result := .next (s.aluReg .cmp .l)

/-- CMP M (rule R152). -/
def execCmpM (s : State) : Result := .next (s.aluReg .cmp .m)

/-- CMP A (rule R152). -/
def execCmpA (s : State) : Result := .next (s.aluReg .cmp .a)

/-- CPI imm8 (rule R153). -/
def execCpi (imm : Byte) (s : State) : Result := .next (s.aluImm .cmp imm)

/-- INR B (rule R154). -/
def execInrB (s : State) : Result := .next (s.inr .b)

/-- INR C (rule R154). -/
def execInrC (s : State) : Result := .next (s.inr .c)

/-- INR D (rule R154). -/
def execInrD (s : State) : Result := .next (s.inr .d)

/-- INR E (rule R154). -/
def execInrE (s : State) : Result := .next (s.inr .e)

/-- INR H (rule R154). -/
def execInrH (s : State) : Result := .next (s.inr .h)

/-- INR L (rule R154). -/
def execInrL (s : State) : Result := .next (s.inr .l)

/-- INR M (rule R154). -/
def execInrM (s : State) : Result := .next (s.inr .m)

/-- INR A (rule R154). -/
def execInrA (s : State) : Result := .next (s.inr .a)

/-- DCR B (rule R155). -/
def execDcrB (s : State) : Result := .next (s.dcr .b)

/-- DCR C (rule R155). -/
def execDcrC (s : State) : Result := .next (s.dcr .c)

/-- DCR D (rule R155). -/
def execDcrD (s : State) : Result := .next (s.dcr .d)

/-- DCR E (rule R155). -/
def execDcrE (s : State) : Result := .next (s.dcr .e)

/-- DCR H (rule R155). -/
def execDcrH (s : State) : Result := .next (s.dcr .h)

/-- DCR L (rule R155). -/
def execDcrL (s : State) : Result := .next (s.dcr .l)

/-- DCR M (rule R155). -/
def execDcrM (s : State) : Result := .next (s.dcr .m)

/-- DCR A (rule R155). -/
def execDcrA (s : State) : Result := .next (s.dcr .a)

/-- INX B (rule R156). -/
def execInxB (s : State) : Result := .next (s.inx .bc)

/-- INX D (rule R156). -/
def execInxD (s : State) : Result := .next (s.inx .de)

/-- INX H (rule R156). -/
def execInxH (s : State) : Result := .next (s.inx .hl)

/-- INX SP (rule R156). -/
def execInxSp (s : State) : Result := .next (s.inx .sp)

/-- DCX B (rule R157). -/
def execDcxB (s : State) : Result := .next (s.dcx .bc)

/-- DCX D (rule R157). -/
def execDcxD (s : State) : Result := .next (s.dcx .de)

/-- DCX H (rule R157). -/
def execDcxH (s : State) : Result := .next (s.dcx .hl)

/-- DCX SP (rule R157). -/
def execDcxSp (s : State) : Result := .next (s.dcx .sp)

/-- DAD B (rule R158). -/
def execDadB (s : State) : Result := .next (s.dad .bc)

/-- DAD D (rule R158). -/
def execDadD (s : State) : Result := .next (s.dad .de)

/-- DAD H (rule R158). -/
def execDadH (s : State) : Result := .next (s.dad .hl)

/-- DAD SP (rule R158). -/
def execDadSp (s : State) : Result := .next (s.dad .sp)

end Sys2Proof.Machine
end

