-- ==== Sys2Proof/Machine/InOut.lean ====
section
/-! DEFINITION. The I/O port hook: IN, OUT, the shift register and the diagnostic console intercept (46_io_hook.md). -/

namespace Sys2Proof.Machine

/-- `ShiftResult()`: `(x >> (8 - sh_off))[7:0]` with `x = sh_hi ++ sh_lo` (rule R248). -/
def State.shiftResult (s : State) : Byte := loByte (mkWord s.shHi s.shLo >>> (8 - s.shOff.toNat))

/-- An unmapped port ends the run (rules R253, R275). -/
def State.unmappedPort (dir : PortDir) (p : Byte) (s : State) : State :=
  s.terminate .unsupportedOpcode (.port dir p)

/-- `A <- v; pc <- pc + 2`, what every mapped IN does (rule R245). -/
def State.input (v : Byte) (s : State) : State := State.advance 2#16 { s with a := v }

/-- IN from port `p` (rules R244, R245). -/
def State.inFrom (p : Byte) (s : State) : State :=
  if p = 0#8 then s.input Config.in0Const
  else if p = 1#8 then s.input s.ports[1]
  else if p = 2#8 then s.input s.ports[2]
  else if p = 3#8 then s.input s.shiftResult
  else s.unmappedPort .input p

/-- OUT to port `p` (rules R244, R246, R247, R249, R250). -/
def State.outTo (p : Byte) (s : State) : State :=
  if p = 2#8 then State.advance 2#16 { s with shOff := s.a.extractLsb' 0 3 }
  else if p = 3#8 then s.advance 2#16
  else if p = 4#8 then State.advance 2#16 { s with shLo := s.shHi, shHi := s.a }
  else if p = 5#8 then s.advance 2#16
  else if p = 6#8 then s.advance 2#16
  else s.unmappedPort .output p

/-- The bytes from address `addr` up to the first sentinel, which is not among them, looking at no more than `n` bytes
(rule R257). `none` when there is no sentinel among them. -/
def State.stringFrom : Nat → Word → State → Option (List Byte)
  | 0, _, _ => none
  | n + 1, addr, s =>
    let v := s.readByte addr
    if v = Config.diagSentinel then some []
    else
      match State.stringFrom n (addr + 1#16) s with
      | some vs => some (v :: vs)
      | none => none

/-- Append bytes to the diagnostic buffer and go past the CALL (rules R256, R260). -/
def State.emit (vs : List Byte) (s : State) : State := State.advance 3#16 { s with diag := s.diag ++ vs }

/-- The diagnostic intercept of `CALL DIAG_TRAP_ADDR` (rules R256 to R259). A string with no sentinel in all 65,536 bytes is
refused (rule R257). -/
def State.intercept (s : State) : Result :=
  if s.get8 Config.diagSelReg = Config.diagSelString then
    match s.stringFrom 65536 (s.get16 Config.diagStrPair) with
    | some vs => .next (s.emit vs)
    | none => .refused .diagStringUnterminated
  else if s.get8 Config.diagSelReg = Config.diagSelChar then .next (s.emit [s.get8 Config.diagCharReg])
  else .next (s.emit [])

/-- Whether the hook claims a CALL to `target` (rule R255). -/
def State.claimsCall (target : Word) (s : State) : Bool := s.diagEnabled && decide (target = Config.diagTrapAddr)

/-- IN p (rule R245). -/
def execInPort (imm : Byte) (s : State) : Result := .next (s.inFrom imm)

/-- OUT p (rule R250). -/
def execOutPort (imm : Byte) (s : State) : Result := .next (s.outTo imm)

end Sys2Proof.Machine
end

