-- ==== Sys2Proof/Machine/Control.lean ====
section
/-! DEFINITION. Stack and control transfer (43_stack_control.md), and the opcodes with no handler (rule R274). -/

namespace Sys2Proof.Machine

/-- A conditional jump (rule R183); `op` is its opcode byte. -/
def State.jumpIf (cc : Cond) (op : Byte) (w : Word) (s : State) : State :=
  if condHolds cc s.flags then s.jumpTo .jcc op w else s.advance 3#16

/-- A conditional call, which the diagnostic intercept is not offered (rules R185, R255). -/
def State.callIf (cc : Cond) (w : Word) (s : State) : State :=
  if condHolds cc s.flags then s.callTo (s.pc + 3#16) w else s.advance 3#16

/-- A conditional return (rule R187). -/
def State.retIf (cc : Cond) (s : State) : State :=
  if condHolds cc s.flags then s.popPc else s.advance 1#16

/-- RST n: push `pc + 1`, go to `8·n` (rule R188). -/
def State.rst (n : Fin 8) (s : State) : State := s.callTo (s.pc + 1#16) (BitVec.ofNat 16 (8 * n.val))

/-- PUSH of a pair or of PSW (rules R195, R196). -/
def State.pushPair (p : StackPair) (s : State) : State := (State.push16 (s.getStack p) s).advance 1#16

/-- POP of a pair or of PSW (rules R197, R198). -/
def State.popPair (p : StackPair) (s : State) : State := (s.drop.setStack p s.top).advance 1#16

/-- JMP a16 (rule R182). -/
def execJmp (w : Word) (s : State) : Result := .next (s.jumpTo .jmp 0xC3#8 w)

/-- JNZ a16 (rule R183). -/
def execJnz (w : Word) (s : State) : Result := .next (s.jumpIf .nz 0xC2#8 w)

/-- JZ a16 (rule R183). -/
def execJz (w : Word) (s : State) : Result := .next (s.jumpIf .z 0xCA#8 w)

/-- JNC a16 (rule R183). -/
def execJnc (w : Word) (s : State) : Result := .next (s.jumpIf .nc 0xD2#8 w)

/-- JC a16 (rule R183). -/
def execJc (w : Word) (s : State) : Result := .next (s.jumpIf .c 0xDA#8 w)

/-- JPO a16 (rule R183). -/
def execJpo (w : Word) (s : State) : Result := .next (s.jumpIf .po 0xE2#8 w)

/-- JPE a16 (rule R183). -/
def execJpe (w : Word) (s : State) : Result := .next (s.jumpIf .pe 0xEA#8 w)

/-- JP a16 (rule R183). -/
def execJp (w : Word) (s : State) : Result := .next (s.jumpIf .p 0xF2#8 w)

/-- JM a16 (rule R183). -/
def execJm (w : Word) (s : State) : Result := .next (s.jumpIf .m 0xFA#8 w)

/-- CALL a16 (rule R184), or the diagnostic intercept when the hook claims the step (rules R255, R256). -/
def execCall (w : Word) (s : State) : Result := 
  if s.claimsCall w then s.intercept else .next (s.callTo (s.pc + 3#16) w)

/-- CNZ a16 (rule R185). -/
def execCnz (w : Word) (s : State) : Result := .next (s.callIf .nz w)

/-- CZ a16 (rule R185). -/
def execCz (w : Word) (s : State) : Result := .next (s.callIf .z w)

/-- CNC a16 (rule R185). -/
def execCnc (w : Word) (s : State) : Result := .next (s.callIf .nc w)

/-- CC a16 (rule R185). -/
def execCc (w : Word) (s : State) : Result := .next (s.callIf .c w)

/-- CPO a16 (rule R185). -/
def execCpo (w : Word) (s : State) : Result := .next (s.callIf .po w)

/-- CPE a16 (rule R185). -/
def execCpe (w : Word) (s : State) : Result := .next (s.callIf .pe w)

/-- CP a16 (rule R185). -/
def execCp (w : Word) (s : State) : Result := .next (s.callIf .p w)

/-- CM a16 (rule R185). -/
def execCm (w : Word) (s : State) : Result := .next (s.callIf .m w)

/-- RET (rule R186). -/
def execRet (s : State) : Result := .next (s.popPc)

/-- RNZ (rule R187). -/
def execRnz (s : State) : Result := .next (s.retIf .nz)

/-- RZ (rule R187). -/
def execRz (s : State) : Result := .next (s.retIf .z)

/-- RNC (rule R187). -/
def execRnc (s : State) : Result := .next (s.retIf .nc)

/-- RC (rule R187). -/
def execRc (s : State) : Result := .next (s.retIf .c)

/-- RPO (rule R187). -/
def execRpo (s : State) : Result := .next (s.retIf .po)

/-- RPE (rule R187). -/
def execRpe (s : State) : Result := .next (s.retIf .pe)

/-- RP (rule R187). -/
def execRp (s : State) : Result := .next (s.retIf .p)

/-- RM (rule R187). -/
def execRm (s : State) : Result := .next (s.retIf .m)

/-- RST 0 (rule R188). -/
def execRst0 (s : State) : Result := .next (s.rst 0)

/-- RST 1 (rule R188). -/
def execRst1 (s : State) : Result := .next (s.rst 1)

/-- RST 2 (rule R188). -/
def execRst2 (s : State) : Result := .next (s.rst 2)

/-- RST 3 (rule R188). -/
def execRst3 (s : State) : Result := .next (s.rst 3)

/-- RST 4 (rule R188). -/
def execRst4 (s : State) : Result := .next (s.rst 4)

/-- RST 5 (rule R188). -/
def execRst5 (s : State) : Result := .next (s.rst 5)

/-- RST 6 (rule R188). -/
def execRst6 (s : State) : Result := .next (s.rst 6)

/-- RST 7 (rule R188). -/
def execRst7 (s : State) : Result := .next (s.rst 7)

/-- PUSH B (rule R195). -/
def execPushB (s : State) : Result := .next (s.pushPair .bc)

/-- PUSH D (rule R195). -/
def execPushD (s : State) : Result := .next (s.pushPair .de)

/-- PUSH H (rule R195). -/
def execPushH (s : State) : Result := .next (s.pushPair .hl)

/-- PUSH PSW (rule R196). -/
def execPushPsw (s : State) : Result := .next (s.pushPair .psw)

/-- POP B (rule R197). -/
def execPopB (s : State) : Result := .next (s.popPair .bc)

/-- POP D (rule R197). -/
def execPopD (s : State) : Result := .next (s.popPair .de)

/-- POP H (rule R197). -/
def execPopH (s : State) : Result := .next (s.popPair .hl)

/-- POP PSW (rule R198). -/
def execPopPsw (s : State) : Result := .next (s.popPair .psw)

/-- A byte of UNDEFINED_OPCODES ends the run (rules R93, R274). -/
def execUndefinedOp (op : Byte) (s : State) : Result := .next (s.terminate .unsupportedOpcode (.opcode op))

end Sys2Proof.Machine
end

