-- ==== Sys2Proof/Machine/Exchange.lean ====
section
/-! DEFINITION. Exchanges and pointer loads (44_exchange.md). None writes a flag. -/

namespace Sys2Proof.Machine

/-- XCHG: HL and DE change places (rule R210). -/
def execXchg (s : State) : Result := .next (((s.setHl s.de).setDe s.hl).advance 1#16)

/-- XTHL: HL and the word on top of the stack change places (rule R211). -/
def execXthl (s : State) : Result := .next (((s.writeWord s.sp s.hl).setHl s.top).advance 1#16)

/-- SPHL: `sp <- HL` (rule R212). -/
def execSphl (s : State) : Result := .next ((s.setSp s.hl).advance 1#16)

/-- PCHL: `pc <- HL` (rule R213). For HL = 0x0000 too: decision D11 (log entry 11). -/
def execPchl (s : State) : Result := .next (s.jumpTo .pchl 0xE9#8 s.hl)

end Sys2Proof.Machine
end

