-- ==== Sys2Proof/Machine/Misc.lean ====
section
/-! DEFINITION. Miscellaneous and control (45_misc.md). -/

namespace Sys2Proof.Machine

/-- `inte <- v; pc <- pc + 1` (rules R225, R226). -/
def State.setInte (v : Bool) (s : State) : State := State.advance 1#16 { s with inte := v }

/-- CMA: `A <- ~A`, no flag (rule R220). -/
def execCma (s : State) : Result := .next (State.advance 1#16 { s with a := ~~~s.a })

/-- CMC: `CY <- ~CY` (rule R221). -/
def execCmc (s : State) : Result := .next ((s.setCy (!s.flags.cy)).advance 1#16)

/-- STC: `CY <- 1` (rule R222). -/
def execStc (s : State) : Result := .next ((s.setCy true).advance 1#16)

/-- DAA: `(A, flags) <- DAA_FN(A, flags)`, an uninterpreted function (rule R223, log entry 6). -/
def execDaa (s : State) : Result := .next (State.advance 1#16 { s with a := (Config.daaFn s.a s.flags).1, flags := (Config.daaFn s.a s.flags).2 })

/-- EI, effective at once (rule R225). -/
def execEi (s : State) : Result := .next (s.setInte true)

/-- DI (rule R226). -/
def execDi (s : State) : Result := .next (s.setInte false)

/-- HLT is a no-op in this core (rule R227, decision D10). -/
def execHlt (s : State) : Result := .next (s.advance 1#16)

/-- NOP (rule R228). -/
def execNop (s : State) : Result := .next (s.advance 1#16)

end Sys2Proof.Machine
end

