-- ==== Sys2Proof/Machine/Rotate.lean ====
section
/-! DEFINITION. The rotates (42_rotate.md): one bit position, `CY` and no other flag (rule R170). -/

namespace Sys2Proof.Machine

/-- `A <- v; CY <- c; pc <- pc + 1`, what every rotate ends with (rule R170). -/
def State.rotated (v : Byte) (cy : Bool) (s : State) : State := (State.setCy cy { s with a := v }).advance 1#16

/-- `A[6:0] ++ b` (rules R171, R173). -/
def shiftInLow (v : Byte) (b : Bool) : Byte := v.extractLsb' 0 7 ++ BitVec.ofBool b

/-- `b ++ A[7:1]` (rules R172, R174). -/
def shiftInHigh (b : Bool) (v : Byte) : Byte := BitVec.ofBool b ++ v.extractLsb' 1 7

/-- RLC: `b <- A[7]; A <- A[6:0] ++ b; CY <- b` (rule R171). -/
def execRlc (s : State) : Result := .next (s.rotated (shiftInLow s.a (s.a.getLsbD 7)) (s.a.getLsbD 7))

/-- RRC: `b <- A[0]; A <- b ++ A[7:1]; CY <- b` (rule R172). -/
def execRrc (s : State) : Result := .next (s.rotated (shiftInHigh (s.a.getLsbD 0) s.a) (s.a.getLsbD 0))

/-- RAL: `b <- A[7]; A <- A[6:0] ++ CY; CY <- b` (rule R173). -/
def execRal (s : State) : Result := .next (s.rotated (shiftInLow s.a s.flags.cy) (s.a.getLsbD 7))

/-- RAR: `b <- A[0]; A <- CY ++ A[7:1]; CY <- b` (rule R174). -/
def execRar (s : State) : Result := .next (s.rotated (shiftInHigh s.flags.cy s.a) (s.a.getLsbD 0))

end Sys2Proof.Machine
end

