-- ==== Sys2Proof/Machine/Transfer.lean ====
section
/-! DEFINITION. The data transfer instructions (40_data_transfer.md). None writes a flag (rule R110). -/

namespace Sys2Proof.Machine

/-- MOV in every form: `R8[ddd] <- R8[sss]; pc <- pc + 1`, the address of `M` taken before the write (rules R111, R112, R113). -/
def State.mov (dst src : R8) (s : State) : State := (s.set8 dst (s.get8 src)).advance 1#16

/-- MVI in every form: `R8[ddd] <- imm8; pc <- pc + 2` (rules R114, R115). -/
def State.mvi (dst : R8) (imm : Byte) (s : State) : State := (s.set8 dst imm).advance 2#16

/-- `RP[pp] <- imm16; pc <- pc + 3` (rule R116). -/
def State.lxi (p : RP) (w : Word) (s : State) : State := (s.set16 p w).advance 3#16

/-- `A <- MemRead(RP[pp], 1); pc <- pc + 1` (rule R121). -/
def State.ldax (p : RP) (s : State) : State := (s.set8 .a (s.readByte (s.get16 p))).advance 1#16

/-- `MemWrite(RP[pp], 1, A); pc <- pc + 1` (rule R122). -/
def State.stax (p : RP) (s : State) : State := (s.writeByte (s.get16 p) s.a).advance 1#16

/-- MOV B,B (rule R111). -/
def execMovBB (s : State) : Result := .next (s.mov .b .b)

/-- MOV B,C (rule R111). -/
def execMovBC (s : State) : Result := .next (s.mov .b .c)

/-- MOV B,D (rule R111). -/
def execMovBD (s : State) : Result := .next (s.mov .b .d)

/-- MOV B,E (rule R111). -/
def execMovBE (s : State) : Result := .next (s.mov .b .e)

/-- MOV B,H (rule R111). -/
def execMovBH (s : State) : Result := .next (s.mov .b .h)

/-- MOV B,L (rule R111). -/
def execMovBL (s : State) : Result := .next (s.mov .b .l)

/-- MOV B,M (rule R112). -/
def execMovBM (s : State) : Result := .next (s.mov .b .m)

/-- MOV B,A (rule R111). -/
def execMovBA (s : State) : Result := .next (s.mov .b .a)

/-- MOV C,B (rule R111). -/
def execMovCB (s : State) : Result := .next (s.mov .c .b)

/-- MOV C,C (rule R111). -/
def execMovCC (s : State) : Result := .next (s.mov .c .c)

/-- MOV C,D (rule R111). -/
def execMovCD (s : State) : Result := .next (s.mov .c .d)

/-- MOV C,E (rule R111). -/
def execMovCE (s : State) : Result := .next (s.mov .c .e)

/-- MOV C,H (rule R111). -/
def execMovCH (s : State) : Result := .next (s.mov .c .h)

/-- MOV C,L (rule R111). -/
def execMovCL (s : State) : Result := .next (s.mov .c .l)

/-- MOV C,M (rule R112). -/
def execMovCM (s : State) : Result := .next (s.mov .c .m)

/-- MOV C,A (rule R111). -/
def execMovCA (s : State) : Result := .next (s.mov .c .a)

/-- MOV D,B (rule R111). -/
def execMovDB (s : State) : Result := .next (s.mov .d .b)

/-- MOV D,C (rule R111). -/
def execMovDC (s : State) : Result := .next (s.mov .d .c)

/-- MOV D,D (rule R111). -/
def execMovDD (s : State) : Result := .next (s.mov .d .d)

/-- MOV D,E (rule R111). -/
def execMovDE (s : State) : Result := .next (s.mov .d .e)

/-- MOV D,H (rule R111). -/
def execMovDH (s : State) : Result := .next (s.mov .d .h)

/-- MOV D,L (rule R111). -/
def execMovDL (s : State) : Result := .next (s.mov .d .l)

/-- MOV D,M (rule R112). -/
def execMovDM (s : State) : Result := .next (s.mov .d .m)

/-- MOV D,A (rule R111). -/
def execMovDA (s : State) : Result := .next (s.mov .d .a)

/-- MOV E,B (rule R111). -/
def execMovEB (s : State) : Result := .next (s.mov .e .b)

/-- MOV E,C (rule R111). -/
def execMovEC (s : State) : Result := .next (s.mov .e .c)

/-- MOV E,D (rule R111). -/
def execMovED (s : State) : Result := .next (s.mov .e .d)

/-- MOV E,E (rule R111). -/
def execMovEE (s : State) : Result := .next (s.mov .e .e)

/-- MOV E,H (rule R111). -/
def execMovEH (s : State) : Result := .next (s.mov .e .h)

/-- MOV E,L (rule R111). -/
def execMovEL (s : State) : Result := .next (s.mov .e .l)

/-- MOV E,M (rule R112). -/
def execMovEM (s : State) : Result := .next (s.mov .e .m)

/-- MOV E,A (rule R111). -/
def execMovEA (s : State) : Result := .next (s.mov .e .a)

/-- MOV H,B (rule R111). -/
def execMovHB (s : State) : Result := .next (s.mov .h .b)

/-- MOV H,C (rule R111). -/
def execMovHC (s : State) : Result := .next (s.mov .h .c)

/-- MOV H,D (rule R111). -/
def execMovHD (s : State) : Result := .next (s.mov .h .d)

/-- MOV H,E (rule R111). -/
def execMovHE (s : State) : Result := .next (s.mov .h .e)

/-- MOV H,H (rule R111). -/
def execMovHH (s : State) : Result := .next (s.mov .h .h)

/-- MOV H,L (rule R111). -/
def execMovHL (s : State) : Result := .next (s.mov .h .l)

/-- MOV H,M (rule R112). -/
def execMovHM (s : State) : Result := .next (s.mov .h .m)

/-- MOV H,A (rule R111). -/
def execMovHA (s : State) : Result := .next (s.mov .h .a)

/-- MOV L,B (rule R111). -/
def execMovLB (s : State) : Result := .next (s.mov .l .b)

/-- MOV L,C (rule R111). -/
def execMovLC (s : State) : Result := .next (s.mov .l .c)

/-- MOV L,D (rule R111). -/
def execMovLD (s : State) : Result := .next (s.mov .l .d)

/-- MOV L,E (rule R111). -/
def execMovLE (s : State) : Result := .next (s.mov .l .e)

/-- MOV L,H (rule R111). -/
def execMovLH (s : State) : Result := .next (s.mov .l .h)

/-- MOV L,L (rule R111). -/
def execMovLL (s : State) : Result := .next (s.mov .l .l)

/-- MOV L,M (rule R112). -/
def execMovLM (s : State) : Result := .next (s.mov .l .m)

/-- MOV L,A (rule R111). -/
def execMovLA (s : State) : Result := .next (s.mov .l .a)

/-- MOV M,B (rule R113). -/
def execMovMB (s : State) : Result := .next (s.mov .m .b)

/-- MOV M,C (rule R113). -/
def execMovMC (s : State) : Result := .next (s.mov .m .c)

/-- MOV M,D (rule R113). -/
def execMovMD (s : State) : Result := .next (s.mov .m .d)

/-- MOV M,E (rule R113). -/
def execMovME (s : State) : Result := .next (s.mov .m .e)

/-- MOV M,H (rule R113). -/
def execMovMH (s : State) : Result := .next (s.mov .m .h)

/-- MOV M,L (rule R113). -/
def execMovML (s : State) : Result := .next (s.mov .m .l)

/-- MOV M,A (rule R113). -/
def execMovMA (s : State) : Result := .next (s.mov .m .a)

/-- MOV A,B (rule R111). -/
def execMovAB (s : State) : Result := .next (s.mov .a .b)

/-- MOV A,C (rule R111). -/
def execMovAC (s : State) : Result := .next (s.mov .a .c)

/-- MOV A,D (rule R111). -/
def execMovAD (s : State) : Result := .next (s.mov .a .d)

/-- MOV A,E (rule R111). -/
def execMovAE (s : State) : Result := .next (s.mov .a .e)

/-- MOV A,H (rule R111). -/
def execMovAH (s : State) : Result := .next (s.mov .a .h)

/-- MOV A,L (rule R111). -/
def execMovAL (s : State) : Result := .next (s.mov .a .l)

/-- MOV A,M (rule R112). -/
def execMovAM (s : State) : Result := .next (s.mov .a .m)

/-- MOV A,A (rule R111). -/
def execMovAA (s : State) : Result := .next (s.mov .a .a)

/-- MVI B,imm8 (rule R114). -/
def execMviB (imm : Byte) (s : State) : Result := .next (s.mvi .b imm)

/-- MVI C,imm8 (rule R114). -/
def execMviC (imm : Byte) (s : State) : Result := .next (s.mvi .c imm)

/-- MVI D,imm8 (rule R114). -/
def execMviD (imm : Byte) (s : State) : Result := .next (s.mvi .d imm)

/-- MVI E,imm8 (rule R114). -/
def execMviE (imm : Byte) (s : State) : Result := .next (s.mvi .e imm)

/-- MVI H,imm8 (rule R114). -/
def execMviH (imm : Byte) (s : State) : Result := .next (s.mvi .h imm)

/-- MVI L,imm8 (rule R114). -/
def execMviL (imm : Byte) (s : State) : Result := .next (s.mvi .l imm)

/-- MVI M,imm8 (rule R115). -/
def execMviM (imm : Byte) (s : State) : Result := .next (s.mvi .m imm)

/-- MVI A,imm8 (rule R114). -/
def execMviA (imm : Byte) (s : State) : Result := .next (s.mvi .a imm)

/-- LXI B,imm16 (rule R116). -/
def execLxiB (w : Word) (s : State) : Result := .next (s.lxi .bc w)

/-- LXI D,imm16 (rule R116). -/
def execLxiD (w : Word) (s : State) : Result := .next (s.lxi .de w)

/-- LXI H,imm16 (rule R116). -/
def execLxiH (w : Word) (s : State) : Result := .next (s.lxi .hl w)

/-- LXI SP,imm16 (rule R116). -/
def execLxiSp (w : Word) (s : State) : Result := .next (s.lxi .sp w)

/-- LDA a16: `A <- MemRead(imm16, 1)` (rule R117). -/
def execLda (w : Word) (s : State) : Result := .next ((s.set8 .a (s.readByte w)).advance 3#16)

/-- LHLD a16: `HL <- MemRead(imm16, 2)` (rule R118). -/
def execLhld (w : Word) (s : State) : Result := .next ((s.setHl (s.readWord w)).advance 3#16)

/-- SHLD a16: `MemWrite(imm16, 2, HL)` (rule R119). -/
def execShld (w : Word) (s : State) : Result := .next ((s.writeWord w s.hl).advance 3#16)

/-- STA a16: `MemWrite(imm16, 1, A)` (rule R120). -/
def execSta (w : Word) (s : State) : Result := .next ((s.writeByte w s.a).advance 3#16)

/-- LDAX B (rule R121). -/
def execLdaxB (s : State) : Result := .next (s.ldax .bc)

/-- LDAX D (rule R121). -/
def execLdaxD (s : State) : Result := .next (s.ldax .de)

/-- STAX B (rule R122). -/
def execStaxB (s : State) : Result := .next (s.stax .bc)

/-- STAX D (rule R122). -/
def execStaxD (s : State) : Result := .next (s.stax .de)

end Sys2Proof.Machine
end

