-- ==== Sys2Proof/Machine/Step.lean ====
section
/-! DEFINITION. One step of the machine: the next turn of the schedule (rules R11, R83), and placing an instruction where the next
step fetches it. -/

namespace Sys2Proof.Machine

/-- One turn: a host action, or one whole instruction of the core (rules R11, R13, R83). -/
def step (s : State) : Host.Outcome State Fault Refusal :=
  match s.nextTurn with
  | .inl r => r
  | .inr t => exec t.fetch t

/-- The instruction of a word of spec/opcode_table.json, placed at `pc` (bits above `nbits` zero, three bytes), so that the very
next step fetches and runs it (log entry 12). -/
def State.withFetchWord (s : State) (nbits w : Nat) : State :=
  s.placeBytes [tableByte nbits w 0, tableByte nbits w 1, tableByte nbits w 2]

end Sys2Proof.Machine
end

