-- ==== Sys2Proof/Safety.lean ====
section
/-! DEFINITION. The words claims are stated in: the invariant of a run, the opcode map of rule R92, and for each instruction what the spec says it may touch
(stored bytes, rule R61; flags, rule R26; registers; terminal conditions, rule R277). None of it is used by the machine. -/

namespace Sys2Proof.Machine

/-! ### The invariant of a run -/

/-- What every state of a run satisfies: the memory is in its canonical form; `exit = 1` exactly when `cause` is not Running
(rule R36); `info` is recorded exactly when the run has ended (rule R271); the diagnostic buffer is empty when diagnostic-console
mode is off (rule R260). -/
structure State.Inv (s : State) : Prop where
  memWf : s.mem.wf = true
  exitIffCause : s.exit = true ↔ s.cause ≠ .running
  infoIffExit : s.info.isSome = s.exit
  diagQuiet : s.diagEnabled = false → s.diag = []

/-- It is the core's turn: the schedule is empty or begins with the core. -/
def State.coresTurn (s : State) : Bool :=
  match s.sched with
  | [] => true
  | .core :: _ => true
  | .interrupt :: _ => false
  | .writePort _ _ :: _ => false
  | .load _ _ :: _ => false

/-! ### The opcode map -/

/-- The map of rule R92, one word for each of the 256 first bytes in order, sixteen to a row: the bytes of the instruction, `lo` and
`hi` being the bytes after the first (an `imm8` is `lo`, an `imm16` is `hi ++ lo`, rule R87), and the instruction they stand for. -/
def opcodeWords (lo hi : Byte) : List (List Byte × Instr) :=
  [([0x00#8], .nop), ([0x01#8, lo, hi], .lxiB (hi ++ lo)), ([0x02#8], .staxB), ([0x03#8], .inxB), ([0x04#8], .inrB),
   ([0x05#8], .dcrB), ([0x06#8, lo], .mviB lo), ([0x07#8], .rlc), ([0x08#8], .undefinedOp 0x08#8), ([0x09#8], .dadB),
   ([0x0A#8], .ldaxB), ([0x0B#8], .dcxB), ([0x0C#8], .inrC), ([0x0D#8], .dcrC), ([0x0E#8, lo], .mviC lo),
   ([0x0F#8], .rrc)] ++
  [([0x10#8], .undefinedOp 0x10#8), ([0x11#8, lo, hi], .lxiD (hi ++ lo)), ([0x12#8], .staxD), ([0x13#8], .inxD),
   ([0x14#8], .inrD), ([0x15#8], .dcrD), ([0x16#8, lo], .mviD lo), ([0x17#8], .ral), ([0x18#8], .undefinedOp 0x18#8),
   ([0x19#8], .dadD), ([0x1A#8], .ldaxD), ([0x1B#8], .dcxD), ([0x1C#8], .inrE), ([0x1D#8], .dcrE),
   ([0x1E#8, lo], .mviE lo), ([0x1F#8], .rar)] ++
  [([0x20#8], .undefinedOp 0x20#8), ([0x21#8, lo, hi], .lxiH (hi ++ lo)), ([0x22#8, lo, hi], .shld (hi ++ lo)),
   ([0x23#8], .inxH), ([0x24#8], .inrH), ([0x25#8], .dcrH), ([0x26#8, lo], .mviH lo), ([0x27#8], .daa),
   ([0x28#8], .undefinedOp 0x28#8), ([0x29#8], .dadH), ([0x2A#8, lo, hi], .lhld (hi ++ lo)), ([0x2B#8], .dcxH),
   ([0x2C#8], .inrL), ([0x2D#8], .dcrL), ([0x2E#8, lo], .mviL lo), ([0x2F#8], .cma)] ++
  [([0x30#8], .undefinedOp 0x30#8), ([0x31#8, lo, hi], .lxiSp (hi ++ lo)), ([0x32#8, lo, hi], .sta (hi ++ lo)),
   ([0x33#8], .inxSp), ([0x34#8], .inrM), ([0x35#8], .dcrM), ([0x36#8, lo], .mviM lo), ([0x37#8], .stc),
   ([0x38#8], .undefinedOp 0x38#8), ([0x39#8], .dadSp), ([0x3A#8, lo, hi], .lda (hi ++ lo)), ([0x3B#8], .dcxSp),
   ([0x3C#8], .inrA), ([0x3D#8], .dcrA), ([0x3E#8, lo], .mviA lo), ([0x3F#8], .cmc)] ++
  [([0x40#8], .movBB), ([0x41#8], .movBC), ([0x42#8], .movBD), ([0x43#8], .movBE), ([0x44#8], .movBH),
   ([0x45#8], .movBL), ([0x46#8], .movBM), ([0x47#8], .movBA), ([0x48#8], .movCB), ([0x49#8], .movCC),
   ([0x4A#8], .movCD), ([0x4B#8], .movCE), ([0x4C#8], .movCH), ([0x4D#8], .movCL), ([0x4E#8], .movCM),
   ([0x4F#8], .movCA)] ++
  [([0x50#8], .movDB), ([0x51#8], .movDC), ([0x52#8], .movDD), ([0x53#8], .movDE), ([0x54#8], .movDH),
   ([0x55#8], .movDL), ([0x56#8], .movDM), ([0x57#8], .movDA), ([0x58#8], .movEB), ([0x59#8], .movEC),
   ([0x5A#8], .movED), ([0x5B#8], .movEE), ([0x5C#8], .movEH), ([0x5D#8], .movEL), ([0x5E#8], .movEM),
   ([0x5F#8], .movEA)] ++
  [([0x60#8], .movHB), ([0x61#8], .movHC), ([0x62#8], .movHD), ([0x63#8], .movHE), ([0x64#8], .movHH),
   ([0x65#8], .movHL), ([0x66#8], .movHM), ([0x67#8], .movHA), ([0x68#8], .movLB), ([0x69#8], .movLC),
   ([0x6A#8], .movLD), ([0x6B#8], .movLE), ([0x6C#8], .movLH), ([0x6D#8], .movLL), ([0x6E#8], .movLM),
   ([0x6F#8], .movLA)] ++
  [([0x70#8], .movMB), ([0x71#8], .movMC), ([0x72#8], .movMD), ([0x73#8], .movME), ([0x74#8], .movMH),
   ([0x75#8], .movML), ([0x76#8], .hlt), ([0x77#8], .movMA), ([0x78#8], .movAB), ([0x79#8], .movAC),
   ([0x7A#8], .movAD), ([0x7B#8], .movAE), ([0x7C#8], .movAH), ([0x7D#8], .movAL), ([0x7E#8], .movAM),
   ([0x7F#8], .movAA)] ++
  [([0x80#8], .addB), ([0x81#8], .addC), ([0x82#8], .addD), ([0x83#8], .addE), ([0x84#8], .addH), ([0x85#8], .addL),
   ([0x86#8], .addM), ([0x87#8], .addA), ([0x88#8], .adcB), ([0x89#8], .adcC), ([0x8A#8], .adcD), ([0x8B#8], .adcE),
   ([0x8C#8], .adcH), ([0x8D#8], .adcL), ([0x8E#8], .adcM), ([0x8F#8], .adcA)] ++
  [([0x90#8], .subB), ([0x91#8], .subC), ([0x92#8], .subD), ([0x93#8], .subE), ([0x94#8], .subH), ([0x95#8], .subL),
   ([0x96#8], .subM), ([0x97#8], .subA), ([0x98#8], .sbbB), ([0x99#8], .sbbC), ([0x9A#8], .sbbD), ([0x9B#8], .sbbE),
   ([0x9C#8], .sbbH), ([0x9D#8], .sbbL), ([0x9E#8], .sbbM), ([0x9F#8], .sbbA)] ++
  [([0xA0#8], .anaB), ([0xA1#8], .anaC), ([0xA2#8], .anaD), ([0xA3#8], .anaE), ([0xA4#8], .anaH), ([0xA5#8], .anaL),
   ([0xA6#8], .anaM), ([0xA7#8], .anaA), ([0xA8#8], .xraB), ([0xA9#8], .xraC), ([0xAA#8], .xraD), ([0xAB#8], .xraE),
   ([0xAC#8], .xraH), ([0xAD#8], .xraL), ([0xAE#8], .xraM), ([0xAF#8], .xraA)] ++
  [([0xB0#8], .oraB), ([0xB1#8], .oraC), ([0xB2#8], .oraD), ([0xB3#8], .oraE), ([0xB4#8], .oraH), ([0xB5#8], .oraL),
   ([0xB6#8], .oraM), ([0xB7#8], .oraA), ([0xB8#8], .cmpB), ([0xB9#8], .cmpC), ([0xBA#8], .cmpD), ([0xBB#8], .cmpE),
   ([0xBC#8], .cmpH), ([0xBD#8], .cmpL), ([0xBE#8], .cmpM), ([0xBF#8], .cmpA)] ++
  [([0xC0#8], .rnz), ([0xC1#8], .popB), ([0xC2#8, lo, hi], .jnz (hi ++ lo)), ([0xC3#8, lo, hi], .jmp (hi ++ lo)),
   ([0xC4#8, lo, hi], .cnz (hi ++ lo)), ([0xC5#8], .pushB), ([0xC6#8, lo], .adi lo), ([0xC7#8], .rst0),
   ([0xC8#8], .rz), ([0xC9#8], .ret), ([0xCA#8, lo, hi], .jz (hi ++ lo)), ([0xCB#8], .undefinedOp 0xCB#8),
   ([0xCC#8, lo, hi], .cz (hi ++ lo)), ([0xCD#8, lo, hi], .call (hi ++ lo)), ([0xCE#8, lo], .aci lo),
   ([0xCF#8], .rst1)] ++
  [([0xD0#8], .rnc), ([0xD1#8], .popD), ([0xD2#8, lo, hi], .jnc (hi ++ lo)), ([0xD3#8, lo], .outPort lo),
   ([0xD4#8, lo, hi], .cnc (hi ++ lo)), ([0xD5#8], .pushD), ([0xD6#8, lo], .sui lo), ([0xD7#8], .rst2),
   ([0xD8#8], .rc), ([0xD9#8], .undefinedOp 0xD9#8), ([0xDA#8, lo, hi], .jc (hi ++ lo)), ([0xDB#8, lo], .inPort lo),
   ([0xDC#8, lo, hi], .cc (hi ++ lo)), ([0xDD#8], .undefinedOp 0xDD#8), ([0xDE#8, lo], .sbi lo), ([0xDF#8], .rst3)] ++
  [([0xE0#8], .rpo), ([0xE1#8], .popH), ([0xE2#8, lo, hi], .jpo (hi ++ lo)), ([0xE3#8], .xthl),
   ([0xE4#8, lo, hi], .cpo (hi ++ lo)), ([0xE5#8], .pushH), ([0xE6#8, lo], .ani lo), ([0xE7#8], .rst4),
   ([0xE8#8], .rpe), ([0xE9#8], .pchl), ([0xEA#8, lo, hi], .jpe (hi ++ lo)), ([0xEB#8], .xchg),
   ([0xEC#8, lo, hi], .cpe (hi ++ lo)), ([0xED#8], .undefinedOp 0xED#8), ([0xEE#8, lo], .xri lo), ([0xEF#8], .rst5)] ++
  [([0xF0#8], .rp), ([0xF1#8], .popPsw), ([0xF2#8, lo, hi], .jp (hi ++ lo)), ([0xF3#8], .di),
   ([0xF4#8, lo, hi], .cp (hi ++ lo)), ([0xF5#8], .pushPsw), ([0xF6#8, lo], .ori lo), ([0xF7#8], .rst6),
   ([0xF8#8], .rm), ([0xF9#8], .sphl), ([0xFA#8, lo, hi], .jm (hi ++ lo)), ([0xFB#8], .ei),
   ([0xFC#8, lo, hi], .cm (hi ++ lo)), ([0xFD#8], .undefinedOp 0xFD#8), ([0xFE#8, lo], .cpi lo), ([0xFF#8], .rst7)]

/-- The row of rule R84: the 8-bit operands by code. -/
def codesR8 : Vector R8 8 := #v[.b, .c, .d, .e, .h, .l, .m, .a]

/-- The rows of rule R85 for LXI, INX, DCX and DAD. -/
def codesRp : Vector RP 4 := #v[.bc, .de, .hl, .sp]

/-- The row of rule R85 for PUSH and POP. -/
def codesStackPair : Vector StackPair 4 := #v[.bc, .de, .hl, .psw]

/-- The row of rule R86: the conditions by code. -/
def codesCond : Vector Cond 8 := #v[.nz, .z, .nc, .c, .po, .pe, .p, .m]

/-- The row of rule R90: the ALU operations by code. -/
def codesAlu : Vector AluOp 8 := #v[.add, .adc, .sub, .sbb, .ana, .xra, .ora, .cmp]

/-! ### Flags of a result, in arithmetic -/

/-- How many bits of a byte are 1. -/
def onesOf (v : Byte) : Nat := ((List.range 8).filter (fun k => v.getLsbD k)).length

/-- `Z`, `S` and `P` are those of the 8-bit result `n` (a number below 256): zero, bit 7, an even number of 1 bits
(rules R131, R132). -/
def zspOf (f : Flags) (n : Nat) : Prop :=
  f.z = decide (n = 0) ∧ f.s = decide (128 ≤ n) ∧ f.p = decide (onesOf (BitVec.ofNat 8 n) % 2 = 0)

/-! ### How a state differs from the one before -/

/-- Nothing but registers A to L and `pc` differs. -/
def State.onlyRegsPc (s t : State) : Prop :=
  t = { s with a := t.a, b := t.b, c := t.c, d := t.d, e := t.e, h := t.h, l := t.l, pc := t.pc }

/-- The result of an 8-bit ALU operation of length `len`: the number `n` is in A, carry `cy`, Z, S and P are those of `n`, `AC` is
anything, and nothing else but `pc` (and the model's count of draws) differs. -/
def State.aluOutcome (s t : State) (n : Nat) (cy : Bool) (len : Word) : Prop :=
  t.a.toNat = n ∧ t.flags.cy = cy ∧ zspOf t.flags n ∧
    t = { s with a := t.a, flags := t.flags, draws := t.draws, pc := s.pc + len }

/-- `v` has been pushed and control has gone elsewhere: `sp` is 2 less, the high byte is at `sp - 1` and the low byte at `sp - 2`
(of the old `sp`), every other byte is as before, and nothing else but `pc` differs (rule R58). -/
def State.pushed (s t : State) (v : Word) : Prop :=
  t.sp = s.sp - 2#16 ∧
    (∀ x, t.readByte x = if x = s.sp - 1#16 then hiByte v else if x = s.sp - 2#16 then loByte v else s.readByte x) ∧
    t = { s with sp := t.sp, mem := t.mem, pc := t.pc }

/-- The run has ended with `cause` and `info`; `pc` is anything and nothing else (but the model's count of draws) differs
(rules R272, R273). -/
def State.endedBy (s t : State) (cause : Cause) (info : Info) : Prop :=
  t.exit = true ∧ t.cause = cause ∧ t.info = some info ∧
    t = { s with exit := t.exit, cause := t.cause, info := t.info, pc := t.pc, draws := t.draws }

/-! ### What an instruction may touch -/

/-- The addresses of the two bytes `Push16` writes (rule R58). -/
def State.pushAddrs (s : State) : List Word := [s.sp - 1#16, s.sp - 2#16]

/-- The addresses of the bytes an instruction stores to when it starts in `s` (rule R61). -/
def instrStores (i : Instr) (s : State) : List Word :=
  match i with
  | .movMB | .movMC | .movMD | .movME | .movMH | .movML | .movMA | .mviM _ | .inrM | .dcrM => [s.hl]
  | .sta w => [w]
  | .shld w => [w, w + 1#16]
  | .staxB => [s.bc]
  | .staxD => [s.de]
  | .xthl => [s.sp, s.sp + 1#16]
  | .pushB | .pushD | .pushH | .pushPsw | .rst0 | .rst1 | .rst2 | .rst3 | .rst4 | .rst5 | .rst6 | .rst7 => s.pushAddrs
  | .call w => if s.claimsCall w then [] else s.pushAddrs
  | .cnz _ => if condHolds .nz s.flags then s.pushAddrs else []
  | .cz _ => if condHolds .z s.flags then s.pushAddrs else []
  | .cnc _ => if condHolds .nc s.flags then s.pushAddrs else []
  | .cc _ => if condHolds .c s.flags then s.pushAddrs else []
  | .cpo _ => if condHolds .po s.flags then s.pushAddrs else []
  | .cpe _ => if condHolds .pe s.flags then s.pushAddrs else []
  | .cp _ => if condHolds .p s.flags then s.pushAddrs else []
  | .cm _ => if condHolds .m s.flags then s.pushAddrs else []
  | .undefinedOp _ | .nop | .lxiB _ | .inxB | .inrB | .dcrB | .mviB _ | .rlc | .dadB | .ldaxB | .dcxB | .inrC | .dcrC
  | .mviC _ | .rrc | .lxiD _ | .inxD | .inrD | .dcrD | .mviD _ | .ral | .dadD | .ldaxD | .dcxD | .inrE | .dcrE
  | .mviE _ | .rar | .lxiH _ | .inxH | .inrH | .dcrH | .mviH _ | .daa | .dadH | .lhld _ | .dcxH | .inrL | .dcrL
  | .mviL _ | .cma | .lxiSp _ | .inxSp | .stc | .dadSp | .lda _ | .dcxSp | .inrA | .dcrA | .mviA _ | .cmc | .movBB
  | .movBC | .movBD | .movBE | .movBH | .movBL | .movBM | .movBA | .movCB | .movCC | .movCD | .movCE | .movCH
  | .movCL | .movCM | .movCA | .movDB | .movDC | .movDD | .movDE | .movDH | .movDL | .movDM | .movDA | .movEB
  | .movEC | .movED | .movEE | .movEH | .movEL | .movEM | .movEA | .movHB | .movHC | .movHD | .movHE | .movHH
  | .movHL | .movHM | .movHA | .movLB | .movLC | .movLD | .movLE | .movLH | .movLL | .movLM | .movLA | .hlt | .movAB
  | .movAC | .movAD | .movAE | .movAH | .movAL | .movAM | .movAA | .addB | .addC | .addD | .addE | .addH | .addL
  | .addM | .addA | .adcB | .adcC | .adcD | .adcE | .adcH | .adcL | .adcM | .adcA | .subB | .subC | .subD | .subE
  | .subH | .subL | .subM | .subA | .sbbB | .sbbC | .sbbD | .sbbE | .sbbH | .sbbL | .sbbM | .sbbA | .anaB | .anaC
  | .anaD | .anaE | .anaH | .anaL | .anaM | .anaA | .xraB | .xraC | .xraD | .xraE | .xraH | .xraL | .xraM | .xraA
  | .oraB | .oraC | .oraD | .oraE | .oraH | .oraL | .oraM | .oraA | .cmpB | .cmpC | .cmpD | .cmpE | .cmpH | .cmpL
  | .cmpM | .cmpA | .rnz | .popB | .jnz _ | .jmp _ | .adi _ | .rz | .ret | .jz _ | .aci _ | .rnc | .popD | .jnc _
  | .outPort _ | .sui _ | .rc | .jc _ | .inPort _ | .sbi _ | .rpo | .popH | .jpo _ | .ani _ | .rpe | .pchl | .jpe _
  | .xchg | .xri _ | .rp | .popPsw | .jp _ | .di | .ori _ | .rm | .sphl | .jm _ | .ei | .cpi _ => []

/-- Which of the five flags an instruction may write (the rows of rule R26). -/
def instrFlagWrites (i : Instr) : Flags :=
  match i with
  | .addB | .addC | .addD | .addE | .addH | .addL | .addM | .addA | .adcB | .adcC | .adcD | .adcE | .adcH | .adcL
  | .adcM | .adcA | .subB | .subC | .subD | .subE | .subH | .subL | .subM | .subA | .sbbB | .sbbC | .sbbD | .sbbE
  | .sbbH | .sbbL | .sbbM | .sbbA | .anaB | .anaC | .anaD | .anaE | .anaH | .anaL | .anaM | .anaA | .xraB | .xraC
  | .xraD | .xraE | .xraH | .xraL | .xraM | .xraA | .oraB | .oraC | .oraD | .oraE | .oraH | .oraL | .oraM | .oraA
  | .cmpB | .cmpC | .cmpD | .cmpE | .cmpH | .cmpL | .cmpM | .cmpA | .adi _ | .aci _ | .sui _ | .sbi _ | .ani _
  | .xri _ | .ori _ | .cpi _ | .daa | .popPsw => { cy := true, z := true, s := true, p := true, ac := true }
  | .inrB | .inrC | .inrD | .inrE | .inrH | .inrL | .inrM | .inrA | .dcrB | .dcrC | .dcrD | .dcrE | .dcrH | .dcrL
  | .dcrM | .dcrA => { cy := false, z := true, s := true, p := true, ac := true }
  | .dadB | .dadD | .dadH | .dadSp | .rlc | .rrc | .ral | .rar | .stc | .cmc =>
      { cy := true, z := false, s := false, p := false, ac := false }
  | .undefinedOp _ | .nop | .lxiB _ | .staxB | .inxB | .mviB _ | .ldaxB | .dcxB | .mviC _ | .lxiD _ | .staxD | .inxD
  | .mviD _ | .ldaxD | .dcxD | .mviE _ | .lxiH _ | .shld _ | .inxH | .mviH _ | .lhld _ | .dcxH | .mviL _ | .cma
  | .lxiSp _ | .sta _ | .inxSp | .mviM _ | .lda _ | .dcxSp | .mviA _ | .movBB | .movBC | .movBD | .movBE | .movBH
  | .movBL | .movBM | .movBA | .movCB | .movCC | .movCD | .movCE | .movCH | .movCL | .movCM | .movCA | .movDB
  | .movDC | .movDD | .movDE | .movDH | .movDL | .movDM | .movDA | .movEB | .movEC | .movED | .movEE | .movEH
  | .movEL | .movEM | .movEA | .movHB | .movHC | .movHD | .movHE | .movHH | .movHL | .movHM | .movHA | .movLB
  | .movLC | .movLD | .movLE | .movLH | .movLL | .movLM | .movLA | .movMB | .movMC | .movMD | .movME | .movMH
  | .movML | .hlt | .movMA | .movAB | .movAC | .movAD | .movAE | .movAH | .movAL | .movAM | .movAA | .rnz | .popB
  | .jnz _ | .jmp _ | .cnz _ | .pushB | .rst0 | .rz | .ret | .jz _ | .cz _ | .call _ | .rst1 | .rnc | .popD | .jnc _
  | .outPort _ | .cnc _ | .pushD | .rst2 | .rc | .jc _ | .inPort _ | .cc _ | .rst3 | .rpo | .popH | .jpo _ | .xthl
  | .cpo _ | .pushH | .rst4 | .rpe | .pchl | .jpe _ | .xchg | .cpe _ | .rst5 | .rp | .jp _ | .di | .cp _ | .pushPsw
  | .rst6 | .rm | .sphl | .jm _ | .ei | .cm _ | .rst7 => { cy := false, z := false, s := false, p := false, ac := false }

/-- The registers among A, B, C, D, E, H, L an instruction may write (its destination registers). -/
def instrRegWrites (i : Instr) : List R8 :=
  match i with
  | .movBB | .movBC | .movBD | .movBE | .movBH | .movBL | .movBM | .movBA | .mviB _ | .inrB | .dcrB => [.b]
  | .movCB | .movCC | .movCD | .movCE | .movCH | .movCL | .movCM | .movCA | .mviC _ | .inrC | .dcrC => [.c]
  | .movDB | .movDC | .movDD | .movDE | .movDH | .movDL | .movDM | .movDA | .mviD _ | .inrD | .dcrD => [.d]
  | .movEB | .movEC | .movED | .movEE | .movEH | .movEL | .movEM | .movEA | .mviE _ | .inrE | .dcrE => [.e]
  | .movHB | .movHC | .movHD | .movHE | .movHH | .movHL | .movHM | .movHA | .mviH _ | .inrH | .dcrH => [.h]
  | .movLB | .movLC | .movLD | .movLE | .movLH | .movLL | .movLM | .movLA | .mviL _ | .inrL | .dcrL => [.l]
  | .movAB | .movAC | .movAD | .movAE | .movAH | .movAL | .movAM | .movAA | .mviA _ | .inrA | .dcrA | .lda _ | .ldaxB
  | .ldaxD | .addB | .addC | .addD | .addE | .addH | .addL | .addM | .addA | .adcB | .adcC | .adcD | .adcE | .adcH
  | .adcL | .adcM | .adcA | .subB | .subC | .subD | .subE | .subH | .subL | .subM | .subA | .sbbB | .sbbC | .sbbD
  | .sbbE | .sbbH | .sbbL | .sbbM | .sbbA | .anaB | .anaC | .anaD | .anaE | .anaH | .anaL | .anaM | .anaA | .xraB
  | .xraC | .xraD | .xraE | .xraH | .xraL | .xraM | .xraA | .oraB | .oraC | .oraD | .oraE | .oraH | .oraL | .oraM
  | .oraA | .adi _ | .aci _ | .sui _ | .sbi _ | .ani _ | .xri _ | .ori _ | .rlc | .rrc | .ral | .rar | .cma | .daa
  | .inPort _ | .popPsw => [.a]
  | .lxiB _ | .inxB | .dcxB | .popB => [.b, .c]
  | .lxiD _ | .inxD | .dcxD | .popD => [.d, .e]
  | .lxiH _ | .inxH | .dcxH | .popH | .lhld _ | .xthl | .dadB | .dadD | .dadH | .dadSp => [.h, .l]
  | .xchg => [.d, .e, .h, .l]
  | .undefinedOp _ | .nop | .staxB | .staxD | .shld _ | .lxiSp _ | .sta _ | .inxSp | .inrM | .dcrM | .mviM _ | .stc
  | .dcxSp | .cmc | .movMB | .movMC | .movMD | .movME | .movMH | .movML | .hlt | .movMA | .cmpB | .cmpC | .cmpD
  | .cmpE | .cmpH | .cmpL | .cmpM | .cmpA | .rnz | .jnz _ | .jmp _ | .cnz _ | .pushB | .rst0 | .rz | .ret | .jz _
  | .cz _ | .call _ | .rst1 | .rnc | .jnc _ | .outPort _ | .cnc _ | .pushD | .rst2 | .rc | .jc _ | .cc _ | .rst3
  | .rpo | .jpo _ | .cpo _ | .pushH | .rst4 | .rpe | .pchl | .jpe _ | .cpe _ | .rst5 | .rp | .jp _ | .di | .cp _
  | .pushPsw | .rst6 | .rm | .sphl | .jm _ | .ei | .cm _ | .cpi _ | .rst7 => []

/-- Whether an instruction may write `sp` (rules R23, R58, R59). -/
def instrWritesSp (i : Instr) : Bool :=
  match i with
  | .lxiSp _ | .inxSp | .dcxSp | .sphl | .call _ | .ret | .cnz _ | .cz _ | .cnc _ | .cc _ | .cpo _ | .cpe _ | .cp _
  | .cm _ | .rnz | .rz | .rnc | .rc | .rpo | .rpe | .rp | .rm | .rst0 | .rst1 | .rst2 | .rst3 | .rst4 | .rst5 | .rst6
  | .rst7 | .pushB | .pushD | .pushH | .pushPsw | .popB | .popD | .popH | .popPsw => true
  | .undefinedOp _ | .nop | .lxiB _ | .staxB | .inxB | .inrB | .dcrB | .mviB _ | .rlc | .dadB | .ldaxB | .dcxB
  | .inrC | .dcrC | .mviC _ | .rrc | .lxiD _ | .staxD | .inxD | .inrD | .dcrD | .mviD _ | .ral | .dadD | .ldaxD
  | .dcxD | .inrE | .dcrE | .mviE _ | .rar | .lxiH _ | .shld _ | .inxH | .inrH | .dcrH | .mviH _ | .daa | .dadH
  | .lhld _ | .dcxH | .inrL | .dcrL | .mviL _ | .cma | .sta _ | .inrM | .dcrM | .mviM _ | .stc | .dadSp | .lda _
  | .inrA | .dcrA | .mviA _ | .cmc | .movBB | .movBC | .movBD | .movBE | .movBH | .movBL | .movBM | .movBA | .movCB
  | .movCC | .movCD | .movCE | .movCH | .movCL | .movCM | .movCA | .movDB | .movDC | .movDD | .movDE | .movDH
  | .movDL | .movDM | .movDA | .movEB | .movEC | .movED | .movEE | .movEH | .movEL | .movEM | .movEA | .movHB
  | .movHC | .movHD | .movHE | .movHH | .movHL | .movHM | .movHA | .movLB | .movLC | .movLD | .movLE | .movLH
  | .movLL | .movLM | .movLA | .movMB | .movMC | .movMD | .movME | .movMH | .movML | .hlt | .movMA | .movAB | .movAC
  | .movAD | .movAE | .movAH | .movAL | .movAM | .movAA | .addB | .addC | .addD | .addE | .addH | .addL | .addM
  | .addA | .adcB | .adcC | .adcD | .adcE | .adcH | .adcL | .adcM | .adcA | .subB | .subC | .subD | .subE | .subH
  | .subL | .subM | .subA | .sbbB | .sbbC | .sbbD | .sbbE | .sbbH | .sbbL | .sbbM | .sbbA | .anaB | .anaC | .anaD
  | .anaE | .anaH | .anaL | .anaM | .anaA | .xraB | .xraC | .xraD | .xraE | .xraH | .xraL | .xraM | .xraA | .oraB
  | .oraC | .oraD | .oraE | .oraH | .oraL | .oraM | .oraA | .cmpB | .cmpC | .cmpD | .cmpE | .cmpH | .cmpL | .cmpM
  | .cmpA | .jnz _ | .jmp _ | .adi _ | .jz _ | .aci _ | .jnc _ | .outPort _ | .sui _ | .jc _ | .inPort _ | .sbi _
  | .jpo _ | .xthl | .ani _ | .pchl | .jpe _ | .xchg | .xri _ | .jp _ | .di | .ori _ | .jm _ | .ei | .cpi _ => false

/-- The cause an instruction may end the run with (rule R277). -/
def instrMayEnd (i : Instr) : Option Cause :=
  match i with
  | .undefinedOp _ | .inPort _ | .outPort _ => some .unsupportedOpcode
  | .jmp _ | .jnz _ | .jz _ | .jnc _ | .jc _ | .jpo _ | .jpe _ | .jp _ | .jm _ => some .resetJump
  | .nop | .lxiB _ | .staxB | .inxB | .inrB | .dcrB | .mviB _ | .rlc | .dadB | .ldaxB | .dcxB | .inrC | .dcrC
  | .mviC _ | .rrc | .lxiD _ | .staxD | .inxD | .inrD | .dcrD | .mviD _ | .ral | .dadD | .ldaxD | .dcxD | .inrE
  | .dcrE | .mviE _ | .rar | .lxiH _ | .shld _ | .inxH | .inrH | .dcrH | .mviH _ | .daa | .dadH | .lhld _ | .dcxH
  | .inrL | .dcrL | .mviL _ | .cma | .lxiSp _ | .sta _ | .inxSp | .inrM | .dcrM | .mviM _ | .stc | .dadSp | .lda _
  | .dcxSp | .inrA | .dcrA | .mviA _ | .cmc | .movBB | .movBC | .movBD | .movBE | .movBH | .movBL | .movBM | .movBA
  | .movCB | .movCC | .movCD | .movCE | .movCH | .movCL | .movCM | .movCA | .movDB | .movDC | .movDD | .movDE
  | .movDH | .movDL | .movDM | .movDA | .movEB | .movEC | .movED | .movEE | .movEH | .movEL | .movEM | .movEA
  | .movHB | .movHC | .movHD | .movHE | .movHH | .movHL | .movHM | .movHA | .movLB | .movLC | .movLD | .movLE
  | .movLH | .movLL | .movLM | .movLA | .movMB | .movMC | .movMD | .movME | .movMH | .movML | .hlt | .movMA | .movAB
  | .movAC | .movAD | .movAE | .movAH | .movAL | .movAM | .movAA | .addB | .addC | .addD | .addE | .addH | .addL
  | .addM | .addA | .adcB | .adcC | .adcD | .adcE | .adcH | .adcL | .adcM | .adcA | .subB | .subC | .subD | .subE
  | .subH | .subL | .subM | .subA | .sbbB | .sbbC | .sbbD | .sbbE | .sbbH | .sbbL | .sbbM | .sbbA | .anaB | .anaC
  | .anaD | .anaE | .anaH | .anaL | .anaM | .anaA | .xraB | .xraC | .xraD | .xraE | .xraH | .xraL | .xraM | .xraA
  | .oraB | .oraC | .oraD | .oraE | .oraH | .oraL | .oraM | .oraA | .cmpB | .cmpC | .cmpD | .cmpE | .cmpH | .cmpL
  | .cmpM | .cmpA | .rnz | .popB | .cnz _ | .pushB | .adi _ | .rst0 | .rz | .ret | .cz _ | .call _ | .aci _ | .rst1
  | .rnc | .popD | .cnc _ | .pushD | .sui _ | .rst2 | .rc | .cc _ | .sbi _ | .rst3 | .rpo | .popH | .xthl | .cpo _
  | .pushH | .ani _ | .rst4 | .rpe | .pchl | .xchg | .cpe _ | .xri _ | .rst5 | .rp | .popPsw | .di | .cp _ | .pushPsw
  | .ori _ | .rst6 | .rm | .sphl | .ei | .cm _ | .cpi _ | .rst7 => none

end Sys2Proof.Machine
end

