-- ==== Sys2Proof/Certificates/Slice0/Obligations.lean ====
section
/-! DEFINITION. What is claimed of the machine, from the rules of spec/. -/

open Sys2Proof Sys2Proof.Machine

/-! ### Encoding -/

/-- Decoding the encoding of a well-formed instruction, whatever bytes follow it, gives the instruction back and those bytes. -/
def Obligations.DecodeOfEncodedInstruction : Prop :=
  ∀ (i : Instr) (rest : List Byte), i.wf = true → decodeBytes (encode i ++ rest) = .ok (i, rest)

/-- Every three bytes decode to a well-formed instruction whose encoding is the first bytes of the three, as many as the first
byte's length; and the length of a defined opcode is the one rule R95 lists by bit pattern. -/
def Obligations.EncodeOfDecodedBytes : Prop :=
  ∀ op b1 b2 : Byte,
    (decode op b1 b2).wf = true ∧
    encode (decode op b1 b2) = [op, b1, b2].take (opLength op) ∧
    (op ∉ Config.undefinedOpcodes →
      opLength op =
        if op &&& 0xCF#8 = 0x01#8 ∨ op ∈ [0x22#8, 0x2A#8, 0x32#8, 0x3A#8, 0xC3#8, 0xCD#8] ∨ op &&& 0xC7#8 = 0xC2#8
            ∨ op &&& 0xC7#8 = 0xC4#8 then 3
        else if op &&& 0xC7#8 = 0x06#8 ∨ op &&& 0xC7#8 = 0xC6#8 ∨ op ∈ [0xD3#8, 0xDB#8] then 2
        else 1)

/-- The opcode map of 30_encoding.md section 4 (the encodings are the spec's decision D5, log entry 20, and the byte order of an
immediate its decision D6, log entry 21), for every value of the operand bytes and whatever bytes follow: first word by word, one
word for each of the 256 first bytes (rule R92); then by the codes of every register, pair, condition, ALU operation and RST
(rules R84 to R91), in the terms the statements about those families use. A word cut short is no instruction. -/
def Obligations.SampleWordsDecode : Prop :=
  ∀ (lo hi : Byte) (rest : List Byte),
    (opcodeWords lo hi).map (fun x => x.1.head?) = (List.range 256).map (fun n => some (BitVec.ofNat 8 n)) ∧
    (∀ x ∈ opcodeWords lo hi, decodeBytes (x.1 ++ rest) = .ok (x.2, rest)) ∧
    (∀ d s : Fin 8, decodeBytes (BitVec.ofNat 8 (0x40 + 8 * d + s) :: rest)
      = .ok (if d = 6 ∧ s = 6 then .hlt else .ofMov codesR8[d] codesR8[s], rest)) ∧
    (∀ a s : Fin 8, decodeBytes (BitVec.ofNat 8 (0x80 + 8 * a + s) :: rest) = .ok (.ofAlu codesAlu[a] codesR8[s], rest)) ∧
    (∀ a : Fin 8, decodeBytes (BitVec.ofNat 8 (0xC6 + 8 * a) :: lo :: rest) = .ok (.ofAluImm codesAlu[a] lo, rest)) ∧
    (∀ d : Fin 8,
      decodeBytes (BitVec.ofNat 8 (0x04 + 8 * d) :: rest) = .ok (.ofInr codesR8[d], rest) ∧
      decodeBytes (BitVec.ofNat 8 (0x05 + 8 * d) :: rest) = .ok (.ofDcr codesR8[d], rest) ∧
      decodeBytes (BitVec.ofNat 8 (0x06 + 8 * d) :: lo :: rest) = .ok (.ofMvi codesR8[d] lo, rest)) ∧
    (∀ p : Fin 4,
      decodeBytes (BitVec.ofNat 8 (0x01 + 16 * p) :: lo :: hi :: rest) = .ok (.ofLxi codesRp[p] (hi ++ lo), rest) ∧
      decodeBytes (BitVec.ofNat 8 (0x03 + 16 * p) :: rest) = .ok (.ofInx codesRp[p], rest) ∧
      decodeBytes (BitVec.ofNat 8 (0x09 + 16 * p) :: rest) = .ok (.ofDad codesRp[p], rest) ∧
      decodeBytes (BitVec.ofNat 8 (0x0B + 16 * p) :: rest) = .ok (.ofDcx codesRp[p], rest) ∧
      decodeBytes (BitVec.ofNat 8 (0xC1 + 16 * p) :: rest) = .ok (.ofPop codesStackPair[p], rest) ∧
      decodeBytes (BitVec.ofNat 8 (0xC5 + 16 * p) :: rest) = .ok (.ofPush codesStackPair[p], rest)) ∧
    (∀ c : Fin 8,
      decodeBytes (BitVec.ofNat 8 (0xC0 + 8 * c) :: rest) = .ok (.ofRcc codesCond[c], rest) ∧
      decodeBytes (BitVec.ofNat 8 (0xC2 + 8 * c) :: lo :: hi :: rest) = .ok (.ofJcc codesCond[c] (hi ++ lo), rest) ∧
      decodeBytes (BitVec.ofNat 8 (0xC4 + 8 * c) :: lo :: hi :: rest) = .ok (.ofCcc codesCond[c] (hi ++ lo), rest)) ∧
    (∀ n : Fin 8, decodeBytes (BitVec.ofNat 8 (0xC7 + 8 * n) :: rest) = .ok (.ofRst n, rest)) ∧
    decodeBytes [0xC3#8, lo] = .error .truncated

/-! ### The step -/

/-- When it is the core's turn and the run has not ended, and the bytes at `pc` decode to the well-formed instruction `i`, the step
is `exec i` on the state with the turn taken off the schedule and the first step begun. -/
def Obligations.StepRunsFetchedInstruction : Prop :=
  ∀ (s : State) (i : Instr) (rest : List Byte), s.exit = false → s.coresTurn = true →
    decodeBytes [s.readByte s.pc, s.readByte (s.pc + 1#16), s.readByte (s.pc + 2#16)] = .ok (i, rest) → i.wf = true →
    step s = exec i { s with sched := s.sched.tail, started := true }

/-- In a state whose run has ended there is no core step; the host's `interrupt` changes nothing but the schedule. -/
def Obligations.NothingRunsAfterExit : Prop :=
  (∀ s : State, s.exit = true → s.coresTurn = true → step s = .fault .runOver) ∧
  (∀ (s : State) (rest : List Turn), s.exit = true → s.sched = .interrupt :: rest → step s = .next { s with sched := rest })

/-- What `create` leaves in every piece of state of the spec, for every value of the parameters the spec leaves OPEN and every
content of the port array. That nothing is recorded in `info` while the run goes on is the model's, log entry 26. -/
def Obligations.CreatedState : Prop :=
  ∀ (pcInit spInit : Word) (memInit : Memory) (ports : Vector Byte 8) (diagEnabled : Bool),
    let s := State.create pcInit spInit memInit ports diagEnabled
    (∀ r, r ≠ R8.m → s.get8 r = 0#8) ∧ s.bc = 0#16 ∧ s.de = 0#16 ∧ s.hl = 0#16 ∧
    s.flags = { cy := false, z := false, s := false, p := false, ac := false } ∧
    s.pc = pcInit ∧ s.sp = spInit ∧ s.inte = false ∧ s.exit = false ∧ s.cause = .running ∧ s.info = none ∧
    (∀ x : Word, s.readByte x = memInit.read x.toNat) ∧ s.ports = ports ∧
    s.shHi = 0#8 ∧ s.shLo = 0#8 ∧ s.shOff = 0#3 ∧ s.diag = [] ∧ s.ivsel = false ∧ s.diagEnabled = diagEnabled

/-- The state after reset meets the invariant. -/
def Obligations.ResetMeetsInvariant : Prop := State.reset.Inv

/-- Every step, of the core or of the host, keeps the invariant: the memory stays in its canonical form, `exit` and `cause` agree,
`info` is recorded exactly when the run has ended, and the diagnostic buffer stays empty while the mode is off. -/
def Obligations.EveryStepKeepsInvariant : Prop :=
  ∀ s t : State, s.Inv → step s = .next t → t.Inv

/-- Along every step the diagnostic buffer only grows at its end, `exit` is never cleared, and `DIAG_ENABLED` never changes. -/
def Obligations.DiagAppendOnlyAndExitSticky : Prop :=
  ∀ s t : State, step s = .next t →
    (∃ vs, t.diag = s.diag ++ vs) ∧ (s.exit = true → t.exit = true) ∧ t.diagEnabled = s.diagEnabled

/-! ### State: pairs, memory, stack, operands -/

/-- Pair aliasing round-trip. -/
def Obligations.PairHalvesRoundTrip : Prop :=
  ∀ (s : State) (h l : Byte) (v : Word),
    (((s.set8 .b h).set8 .c l).bc.toNat = 256 * h.toNat + l.toNat ∧
      ((s.set8 .d h).set8 .e l).de.toNat = 256 * h.toNat + l.toNat ∧
      ((s.set8 .h h).set8 .l l).hl.toNat = 256 * h.toNat + l.toNat) ∧
    ((s.setBc v).b.toNat = v.toNat / 256 ∧ (s.setBc v).c.toNat = v.toNat % 256) ∧
    ((s.setDe v).d.toNat = v.toNat / 256 ∧ (s.setDe v).e.toNat = v.toNat % 256) ∧
    ((s.setHl v).h.toNat = v.toNat / 256 ∧ (s.setHl v).l.toNat = v.toNat % 256)

/-- Reading after writing, one byte and two, at every address with wrap-around, in every state; a 2-byte read has the byte at the
lower address as its low half; a write changes nothing but the addressed bytes. -/
def Obligations.MemoryReadAfterWrite : Prop :=
  ∀ (s : State) (addr x : Word) (v : Byte) (w : Word),
    (s.writeByte addr v).readByte x = (if x = addr then v else s.readByte x) ∧
    s.writeByte addr v = { s with mem := (s.writeByte addr v).mem } ∧
    ((s.writeWord addr w).readByte x).toNat
      = (if x = addr then w.toNat % 256 else if x = addr + 1#16 then w.toNat / 256 else (s.readByte x).toNat) ∧
    s.writeWord addr w = { s with mem := (s.writeWord addr w).mem } ∧
    (s.readWord addr).toNat = 256 * (s.readByte (addr + 1#16)).toNat + (s.readByte addr).toNat

/-- `Push16` and `Pop16`: what a push stores and where, what a pop reads and how `sp` moves, and that a pop after a push gives the
word and `sp` back. -/
def Obligations.StackPushThenPop : Prop :=
  ∀ (s : State) (v : Word),
    s.pushed (s.push16 v) v ∧ (s.push16 v).pc = s.pc ∧
    s.top.toNat = 256 * (s.readByte (s.sp + 1#16)).toNat + (s.readByte s.sp).toNat ∧
    s.drop = { s with sp := s.sp + 2#16 } ∧
    (s.push16 v).top = v ∧ (s.push16 v).drop.sp = s.sp

/-- The 8-bit and 16-bit operands: reading and writing `R8[r]` and `RP[p]`, `M` being the byte at HL; writing one changes nothing
else. -/
def Obligations.OperandForms : Prop :=
  ∀ (s : State) (v : Byte) (w x : Word),
    s.get8 .m = s.readByte s.hl ∧
    (∀ r, r ≠ R8.m → (s.set8 r v).get8 r = v ∧ (∀ q, q ≠ R8.m → q ≠ r → (s.set8 r v).get8 q = s.get8 q) ∧
      (s.set8 r v).readByte x = s.readByte x ∧ s.onlyRegsPc (s.set8 r v) ∧ (s.set8 r v).pc = s.pc) ∧
    (s.set8 .m v).readByte x = (if x = s.hl then v else s.readByte x) ∧
    s.set8 .m v = { s with mem := (s.set8 .m v).mem } ∧
    (∀ p, (s.set16 p w).get16 p = w ∧ (∀ q, q ≠ p → (s.set16 p w).get16 q = s.get16 q) ∧
      s.onlyRegsPc { s.set16 p w with sp := s.sp } ∧ (s.set16 p w).a = s.a ∧ (s.set16 p w).pc = s.pc)

/-- The eight condition predicates. -/
def Obligations.ConditionPredicates : Prop :=
  ∀ f : Flags,
    (condHolds .nz f = true ↔ f.z = false) ∧ (condHolds .z f = true ↔ f.z = true) ∧
    (condHolds .nc f = true ↔ f.cy = false) ∧ (condHolds .c f = true ↔ f.cy = true) ∧
    (condHolds .po f = true ↔ f.p = false) ∧ (condHolds .pe f = true ↔ f.p = true) ∧
    (condHolds .p f = true ↔ f.s = false) ∧ (condHolds .m f = true ↔ f.s = true)

/-- `parity(v)` is 1 exactly when the number of 1 bits in `v` is even, and it is the complement of the exclusive or of all bits. -/
def Obligations.ParityOfEveryByte : Prop :=
  ∀ v : Byte,
    (parity v = true ↔ onesOf v % 2 = 0) ∧
    parity v = !(List.range 8).foldl (fun x k => x ^^ v.getLsbD k) false

/-- The packed flag byte, bit by bit; unpacking it gives the five flags back; bits 5, 3 and 1 are ignored when unpacking. The layout
is the spec's decision D7. -/
def Obligations.FlagByteLayout : Prop :=
  ∀ (f : Flags) (v : Byte),
    (flagByte f).toNat
      = 128 * f.s.toNat + 64 * f.z.toNat + 16 * f.ac.toNat + 4 * f.p.toNat + 2 + f.cy.toNat ∧
    flagsOfByte (flagByte f) = f ∧
    flagByte (flagsOfByte v) = (v &&& 0xD7#8) ||| 0x02#8

/-! ### Data transfer -/

/-- MOV to a register, from a register or from `M` (whose address is HL as it is before). -/
def Obligations.MoveToRegister : Prop :=
  ∀ (s : State) (dst src : R8), dst ≠ .m →
    ∃ t, exec (.ofMov dst src) s = .next t ∧
      t.get8 dst = (if src = .m then s.readByte s.hl else s.get8 src) ∧
      (∀ r, r ≠ R8.m → r ≠ dst → t.get8 r = s.get8 r) ∧ t.pc = s.pc + 1#16 ∧ s.onlyRegsPc t

/-- MOV to `M` from a register: the byte at HL is the register, every other byte is as before. -/
def Obligations.MoveToMemory : Prop :=
  ∀ (s : State) (src : R8), src ≠ .m →
    ∃ t, exec (.ofMov .m src) s = .next t ∧
      (∀ x, t.readByte x = if x = s.hl then s.get8 src else s.readByte x) ∧ t = { s with mem := t.mem, pc := s.pc + 1#16 }

/-- MVI, to a register and to `M`. -/
def Obligations.MoveImmediate : Prop :=
  ∀ (s : State) (imm : Byte),
    (∀ dst, dst ≠ R8.m →
      ∃ t, exec (.ofMvi dst imm) s = .next t ∧ t.get8 dst = imm ∧
        (∀ r, r ≠ R8.m → r ≠ dst → t.get8 r = s.get8 r) ∧ t.pc = s.pc + 2#16 ∧ s.onlyRegsPc t) ∧
    (∃ t, exec (.mviM imm) s = .next t ∧
      (∀ x, t.readByte x = if x = s.hl then imm else s.readByte x) ∧ t = { s with mem := t.mem, pc := s.pc + 2#16 })

/-- LXI of each pair and of `sp`. -/
def Obligations.LoadPairImmediate : Prop :=
  ∀ (s : State) (p : RP) (w : Word),
    ∃ t, exec (.ofLxi p w) s = .next t ∧ t.get16 p = w ∧ (∀ q, q ≠ p → t.get16 q = s.get16 q) ∧ t.a = s.a ∧
      t = { s with b := t.b, c := t.c, d := t.d, e := t.e, h := t.h, l := t.l, sp := t.sp, pc := s.pc + 3#16 }

/-- LDA and LDAX: A is the byte at the address, and nothing else but `pc` changes. -/
def Obligations.LoadAccumulator : Prop :=
  ∀ (s : State) (w : Word),
    exec (.lda w) s = .next { s with a := s.readByte w, pc := s.pc + 3#16 } ∧
    exec .ldaxB s = .next { s with a := s.readByte s.bc, pc := s.pc + 1#16 } ∧
    exec .ldaxD s = .next { s with a := s.readByte s.de, pc := s.pc + 1#16 }

/-- STA and STAX: the byte at the address is A, every other byte is as before, and nothing else but `pc` changes. -/
def Obligations.StoreAccumulator : Prop :=
  ∀ (s : State) (w : Word),
    (∃ t, exec (.sta w) s = .next t ∧ (∀ x, t.readByte x = if x = w then s.a else s.readByte x) ∧
      t = { s with mem := t.mem, pc := s.pc + 3#16 }) ∧
    (∃ t, exec .staxB s = .next t ∧ (∀ x, t.readByte x = if x = s.bc then s.a else s.readByte x) ∧
      t = { s with mem := t.mem, pc := s.pc + 1#16 }) ∧
    (∃ t, exec .staxD s = .next t ∧ (∀ x, t.readByte x = if x = s.de then s.a else s.readByte x) ∧
      t = { s with mem := t.mem, pc := s.pc + 1#16 })

/-- LHLD and SHLD: L and the byte at the address, H and the byte at the next address, which wraps. The byte order is the spec's
decision D6, the wrap its decision D14. -/
def Obligations.LoadStoreHL : Prop :=
  ∀ (s : State) (w : Word),
    exec (.lhld w) s = .next { s with l := s.readByte w, h := s.readByte (w + 1#16), pc := s.pc + 3#16 } ∧
    (∃ t, exec (.shld w) s = .next t ∧
      (∀ x, t.readByte x = if x = w then s.l else if x = w + 1#16 then s.h else s.readByte x) ∧
      t = { s with mem := t.mem, pc := s.pc + 3#16 })

/-! ### Arithmetic and logic -/

/-- ADD, ADI, ADC and ACI in arithmetic: the sum, the carry out of bit 7, Z, S and P of the low byte. -/
def Obligations.AdditionResult : Prop :=
  ∀ s : State,
    (∀ r, ∃ t, exec (.ofAlu .add r) s = .next t ∧
      s.aluOutcome t ((s.a.toNat + (s.get8 r).toNat) % 256) (decide (255 < s.a.toNat + (s.get8 r).toNat)) 1#16) ∧
    (∀ imm : Byte, ∃ t, exec (.adi imm) s = .next t ∧
      s.aluOutcome t ((s.a.toNat + imm.toNat) % 256) (decide (255 < s.a.toNat + imm.toNat)) 2#16) ∧
    (∀ r, ∃ t, exec (.ofAlu .adc r) s = .next t ∧
      s.aluOutcome t ((s.a.toNat + (s.get8 r).toNat + s.flags.cy.toNat) % 256)
        (decide (255 < s.a.toNat + (s.get8 r).toNat + s.flags.cy.toNat)) 1#16) ∧
    (∀ imm : Byte, ∃ t, exec (.aci imm) s = .next t ∧
      s.aluOutcome t ((s.a.toNat + imm.toNat + s.flags.cy.toNat) % 256)
        (decide (255 < s.a.toNat + imm.toNat + s.flags.cy.toNat)) 2#16)

/-- SUB, SUI, SBB and SBI in arithmetic: the difference modulo 256, CY a borrow (the spec's decision D23), Z, S and P. -/
def Obligations.SubtractionResult : Prop :=
  ∀ s : State,
    (∀ r, ∃ t, exec (.ofAlu .sub r) s = .next t ∧
      s.aluOutcome t ((s.a.toNat + 256 - (s.get8 r).toNat) % 256) (decide (s.a.toNat < (s.get8 r).toNat)) 1#16) ∧
    (∀ imm : Byte, ∃ t, exec (.sui imm) s = .next t ∧
      s.aluOutcome t ((s.a.toNat + 256 - imm.toNat) % 256) (decide (s.a.toNat < imm.toNat)) 2#16) ∧
    (∀ r, ∃ t, exec (.ofAlu .sbb r) s = .next t ∧
      s.aluOutcome t ((s.a.toNat + 256 - ((s.get8 r).toNat + s.flags.cy.toNat)) % 256)
        (decide (s.a.toNat < (s.get8 r).toNat + s.flags.cy.toNat)) 1#16) ∧
    (∀ imm : Byte, ∃ t, exec (.sbi imm) s = .next t ∧
      s.aluOutcome t ((s.a.toNat + 256 - (imm.toNat + s.flags.cy.toNat)) % 256)
        (decide (s.a.toNat < imm.toNat + s.flags.cy.toNat)) 2#16)

/-- CMP and CPI: the flags SUB would leave, and A as before. -/
def Obligations.CompareResult : Prop :=
  ∀ s : State,
    (∀ r, ∃ t, exec (.ofAlu .cmp r) s = .next t ∧ t.flags.cy = decide (s.a.toNat < (s.get8 r).toNat) ∧
      zspOf t.flags ((s.a.toNat + 256 - (s.get8 r).toNat) % 256) ∧
      t = { s with flags := t.flags, draws := t.draws, pc := s.pc + 1#16 }) ∧
    (∀ imm : Byte, ∃ t, exec (.cpi imm) s = .next t ∧ t.flags.cy = decide (s.a.toNat < imm.toNat) ∧
      zspOf t.flags ((s.a.toNat + 256 - imm.toNat) % 256) ∧
      t = { s with flags := t.flags, draws := t.draws, pc := s.pc + 2#16 })

/-- ANA, ANI, XRA, XRI, ORA and ORI: the bitwise result, CY 0, Z, S and P. -/
def Obligations.LogicResult : Prop :=
  ∀ s : State,
    (∀ r, ∃ t, exec (.ofAlu .ana r) s = .next t ∧ s.aluOutcome t (s.a.toNat &&& (s.get8 r).toNat) false 1#16) ∧
    (∀ imm : Byte, ∃ t, exec (.ani imm) s = .next t ∧ s.aluOutcome t (s.a.toNat &&& imm.toNat) false 2#16) ∧
    (∀ r, ∃ t, exec (.ofAlu .xra r) s = .next t ∧ s.aluOutcome t (s.a.toNat ^^^ (s.get8 r).toNat) false 1#16) ∧
    (∀ imm : Byte, ∃ t, exec (.xri imm) s = .next t ∧ s.aluOutcome t (s.a.toNat ^^^ imm.toNat) false 2#16) ∧
    (∀ r, ∃ t, exec (.ofAlu .ora r) s = .next t ∧ s.aluOutcome t (s.a.toNat ||| (s.get8 r).toNat) false 1#16) ∧
    (∀ imm : Byte, ∃ t, exec (.ori imm) s = .next t ∧ s.aluOutcome t (s.a.toNat ||| imm.toNat) false 2#16)

/-- INR and DCR of each register and of `M`: the operand one more or less modulo 256, Z, S and P of it (the spec's decision D24),
CY as before, every other register and byte as before. -/
def Obligations.IncrementDecrementByte : Prop :=
  ∀ (s : State) (dst : R8),
    (∃ t, exec (.ofInr dst) s = .next t ∧ (t.get8 dst).toNat = ((s.get8 dst).toNat + 1) % 256 ∧
      t.flags.cy = s.flags.cy ∧ zspOf t.flags (t.get8 dst).toNat ∧ (∀ r, r ≠ R8.m → r ≠ dst → t.get8 r = s.get8 r) ∧
      (∀ x, ¬(dst = .m ∧ x = s.hl) → t.readByte x = s.readByte x) ∧
      s.onlyRegsPc { t with mem := s.mem, flags := s.flags, draws := s.draws } ∧ t.pc = s.pc + 1#16) ∧
    (∃ t, exec (.ofDcr dst) s = .next t ∧ (t.get8 dst).toNat = ((s.get8 dst).toNat + 255) % 256 ∧
      t.flags.cy = s.flags.cy ∧ zspOf t.flags (t.get8 dst).toNat ∧ (∀ r, r ≠ R8.m → r ≠ dst → t.get8 r = s.get8 r) ∧
      (∀ x, ¬(dst = .m ∧ x = s.hl) → t.readByte x = s.readByte x) ∧
      s.onlyRegsPc { t with mem := s.mem, flags := s.flags, draws := s.draws } ∧ t.pc = s.pc + 1#16)

/-- INX and DCX of each pair and of `sp`: one more or less modulo 2^16, no flag, nothing else but `pc`. -/
def Obligations.IncrementDecrementPair : Prop :=
  ∀ (s : State) (p : RP),
    (∃ t, exec (.ofInx p) s = .next t ∧ (t.get16 p).toNat = ((s.get16 p).toNat + 1) % 65536 ∧
      (∀ q, q ≠ p → t.get16 q = s.get16 q) ∧
      t = { s with b := t.b, c := t.c, d := t.d, e := t.e, h := t.h, l := t.l, sp := t.sp, pc := s.pc + 1#16 }) ∧
    (∃ t, exec (.ofDcx p) s = .next t ∧ (t.get16 p).toNat = ((s.get16 p).toNat + 65535) % 65536 ∧
      (∀ q, q ≠ p → t.get16 q = s.get16 q) ∧
      t = { s with b := t.b, c := t.c, d := t.d, e := t.e, h := t.h, l := t.l, sp := t.sp, pc := s.pc + 1#16 })

/-- DAD of each pair and of `sp` (DAD SP is the spec's decision D22): HL is the sum modulo 2^16, CY its bit 16, no other flag. -/
def Obligations.DoubleAdd : Prop :=
  ∀ (s : State) (p : RP),
    ∃ t, exec (.ofDad p) s = .next t ∧ t.hl.toNat = (s.hl.toNat + (s.get16 p).toNat) % 65536 ∧
      t.flags.cy = decide (65536 ≤ s.hl.toNat + (s.get16 p).toNat) ∧
      t = { s with h := t.h, l := t.l, flags := { s.flags with cy := t.flags.cy }, pc := s.pc + 1#16 }

/-- The four rotates in arithmetic; CY is the bit that leaves, no other flag changes (the spec's decision D24). -/
def Obligations.RotateResult : Prop :=
  ∀ s : State,
    (∃ t, exec .rlc s = .next t ∧ t.a.toNat = 2 * s.a.toNat % 256 + s.a.toNat / 128 ∧
      t = { s with a := t.a, flags := { s.flags with cy := decide (128 ≤ s.a.toNat) }, pc := s.pc + 1#16 }) ∧
    (∃ t, exec .rrc s = .next t ∧ t.a.toNat = s.a.toNat / 2 + 128 * (s.a.toNat % 2) ∧
      t = { s with a := t.a, flags := { s.flags with cy := decide (s.a.toNat % 2 = 1) }, pc := s.pc + 1#16 }) ∧
    (∃ t, exec .ral s = .next t ∧ t.a.toNat = 2 * s.a.toNat % 256 + s.flags.cy.toNat ∧
      t = { s with a := t.a, flags := { s.flags with cy := decide (128 ≤ s.a.toNat) }, pc := s.pc + 1#16 }) ∧
    (∃ t, exec .rar s = .next t ∧ t.a.toNat = s.a.toNat / 2 + 128 * s.flags.cy.toNat ∧
      t = { s with a := t.a, flags := { s.flags with cy := decide (s.a.toNat % 2 = 1) }, pc := s.pc + 1#16 })

/-! ### Control transfer and stack -/

/-- JMP: to its target, or the end of the run when the target is 0 (what else the ending leaves is the spec's decision D12). -/
def Obligations.JumpResult : Prop :=
  ∀ (s : State) (w : Word),
    if w = 0x0000#16 then ∃ t, exec (.jmp w) s = .next t ∧ s.endedBy t .resetJump (.opcode 0xC3#8)
    else exec (.jmp w) s = .next { s with pc := w }

/-- The conditional jumps: taken exactly when the condition holds; a taken jump to 0 ends the run (the spec's decision D11). -/
def Obligations.ConditionalJumpResult : Prop :=
  ∀ (s : State) (cc : Cond) (w : Word),
    if condHolds cc s.flags = true then
      if w = 0x0000#16 then
        ∃ t op, (encode (.ofJcc cc w)).head? = some op ∧ exec (.ofJcc cc w) s = .next t ∧ s.endedBy t .resetJump (.opcode op)
      else exec (.ofJcc cc w) s = .next { s with pc := w }
    else exec (.ofJcc cc w) s = .next { s with pc := s.pc + 3#16 }

/-- CALL, when the diagnostic intercept does not claim it (mode off, or a target other than 0x0005): `pc + 3` is pushed and
control goes to the target, which may be 0. -/
def Obligations.CallResult : Prop :=
  ∀ (s : State) (w : Word), s.diagEnabled = false ∨ w ≠ 0x0005#16 →
    ∃ t, exec (.call w) s = .next t ∧ s.pushed t (s.pc + 3#16) ∧ t.pc = w

/-- `CALL 0x0005` with diagnostic-console mode on (the constants are the spec's decision D20). Selector C = 2 appends E; selector
C = 9 appends the bytes from DE up to the first 0x24, when there is one at distance `n`, without it, going round past 0xFFFF; any
other selector appends nothing; each goes on at `pc + 3` and changes nothing else. With no 0x24 anywhere in memory the model
refuses (decision D29). -/
def Obligations.DiagnosticIntercept : Prop :=
  ∀ s : State, s.diagEnabled = true →
    (s.c = 0x02#8 → exec (.call 0x0005#16) s = .next { s with diag := s.diag ++ [s.e], pc := s.pc + 3#16 }) ∧
    (s.c ≠ 0x02#8 → s.c ≠ 0x09#8 → exec (.call 0x0005#16) s = .next { s with pc := s.pc + 3#16 }) ∧
    (s.c = 0x09#8 →
      (∀ n : Nat, n < 65536 → s.readByte (s.de + BitVec.ofNat 16 n) = 0x24#8 →
        (∀ k, k < n → s.readByte (s.de + BitVec.ofNat 16 k) ≠ 0x24#8) →
        exec (.call 0x0005#16) s
          = .next { s with
              diag := s.diag ++ (List.range n).map (fun k => s.readByte (s.de + BitVec.ofNat 16 k)), pc := s.pc + 3#16 }) ∧
      ((∀ x, s.readByte x ≠ 0x24#8) → exec (.call 0x0005#16) s = .refused .diagStringUnterminated))

/-- The conditional calls: as CALL when the condition holds, never intercepted (the spec's decision D30), else `pc + 3`. -/
def Obligations.ConditionalCallResult : Prop :=
  ∀ (s : State) (cc : Cond) (w : Word),
    if condHolds cc s.flags = true then ∃ t, exec (.ofCcc cc w) s = .next t ∧ s.pushed t (s.pc + 3#16) ∧ t.pc = w
    else exec (.ofCcc cc w) s = .next { s with pc := s.pc + 3#16 }

/-- RST n: `pc + 1` is pushed and control goes to `8·n` (the spec's decision D17, log entry 33). That the high byte is pushed at
`sp - 1` and the low byte at `sp - 2` is its decision D6, log entry 13. -/
def Obligations.RestartResult : Prop :=
  ∀ (s : State) (n : Fin 8),
    ∃ t, exec (.ofRst n.val) s = .next t ∧ s.pushed t (s.pc + 1#16) ∧ t.pc.toNat = 8 * n.val

/-- RET and the conditional returns: the word on top of the stack (low byte at `sp`) into `pc`, `sp + 2`; a return that is not
taken goes on at `pc + 1`. -/
def Obligations.ReturnResult : Prop :=
  ∀ s : State,
    (∃ t, exec .ret s = .next t ∧ t.pc.toNat = 256 * (s.readByte (s.sp + 1#16)).toNat + (s.readByte s.sp).toNat ∧
      t = { s with pc := t.pc, sp := s.sp + 2#16 }) ∧
    (∀ cc : Cond,
      if condHolds cc s.flags = true then
        ∃ t, exec (.ofRcc cc) s = .next t ∧ t.pc.toNat = 256 * (s.readByte (s.sp + 1#16)).toNat + (s.readByte s.sp).toNat ∧
          t = { s with pc := t.pc, sp := s.sp + 2#16 }
      else exec (.ofRcc cc) s = .next { s with pc := s.pc + 1#16 })

/-- PUSH of each pair, high half at `sp - 1`, and of PSW, A at `sp - 1` and the flag byte at `sp - 2`. -/
def Obligations.PushResult : Prop :=
  ∀ s : State,
    (∃ t, exec .pushB s = .next t ∧ s.pushed t s.bc ∧ t.pc = s.pc + 1#16) ∧
    (∃ t, exec .pushD s = .next t ∧ s.pushed t s.de ∧ t.pc = s.pc + 1#16) ∧
    (∃ t, exec .pushH s = .next t ∧ s.pushed t s.hl ∧ t.pc = s.pc + 1#16) ∧
    (∃ t, exec .pushPsw s = .next t ∧ s.pushed t (mkWord s.a (flagByte s.flags)) ∧ t.pc = s.pc + 1#16)

/-- POP of each pair and of PSW: low half from `sp`, high half from `sp + 1`; the flags of PSW from bits 7, 6, 4, 2 and 0. -/
def Obligations.PopResult : Prop :=
  ∀ s : State,
    exec .popB s = .next { s with c := s.readByte s.sp, b := s.readByte (s.sp + 1#16), sp := s.sp + 2#16, pc := s.pc + 1#16 } ∧
    exec .popD s = .next { s with e := s.readByte s.sp, d := s.readByte (s.sp + 1#16), sp := s.sp + 2#16, pc := s.pc + 1#16 } ∧
    exec .popH s = .next { s with l := s.readByte s.sp, h := s.readByte (s.sp + 1#16), sp := s.sp + 2#16, pc := s.pc + 1#16 } ∧
    exec .popPsw s
      = .next { s with
          a := s.readByte (s.sp + 1#16)
          flags := { s := (s.readByte s.sp).getLsbD 7, z := (s.readByte s.sp).getLsbD 6, ac := (s.readByte s.sp).getLsbD 4,
                     p := (s.readByte s.sp).getLsbD 2, cy := (s.readByte s.sp).getLsbD 0 }
          sp := s.sp + 2#16
          pc := s.pc + 1#16 }

/-- PUSH then POP of the same pair, or of PSW, gives back the pair (A and all five flags) and `sp`, at every `sp`, and changes
nothing but memory and `pc`. -/
def Obligations.PushPopRoundTrip : Prop :=
  ∀ (s : State) (p : StackPair),
    ∃ t, exec (.ofPush p) s = .next t ∧ exec (.ofPop p) t = .next { s with mem := t.mem, pc := s.pc + 2#16 }

/-- A CALL and then a RET: back at `pc + 3` with `sp` as it was. -/
def Obligations.CallReturnRoundTrip : Prop :=
  ∀ (s : State) (w : Word), s.diagEnabled = false ∨ w ≠ 0x0005#16 →
    ∃ t, exec (.call w) s = .next t ∧ exec .ret t = .next { s with mem := t.mem, pc := s.pc + 3#16 }

/-! ### Exchanges, miscellaneous -/

/-- XCHG, XTHL, SPHL and PCHL. PCHL with HL = 0x0000 goes on at 0x0000: the spec's decision D11, log entry 11. -/
def Obligations.ExchangeResult : Prop :=
  ∀ s : State,
    exec .xchg s = .next { s with d := s.h, e := s.l, h := s.d, l := s.e, pc := s.pc + 1#16 } ∧
    (∃ t, exec .xthl s = .next t ∧
      (∀ x, t.readByte x = if x = s.sp then s.l else if x = s.sp + 1#16 then s.h else s.readByte x) ∧
      t = { s with l := s.readByte s.sp, h := s.readByte (s.sp + 1#16), mem := t.mem, pc := s.pc + 1#16 }) ∧
    exec .sphl s = .next { s with sp := s.hl, pc := s.pc + 1#16 } ∧
    exec .pchl s = .next { s with pc := s.hl }

/-- CMA, CMC and STC (which flags they leave alone is the spec's decision D24). -/
def Obligations.ComplementAndCarry : Prop :=
  ∀ s : State,
    (∃ t, exec .cma s = .next t ∧ t.a.toNat = 255 - s.a.toNat ∧ t = { s with a := t.a, pc := s.pc + 1#16 }) ∧
    exec .cmc s = .next { s with flags := { s.flags with cy := !s.flags.cy }, pc := s.pc + 1#16 } ∧
    exec .stc s = .next { s with flags := { s.flags with cy := true }, pc := s.pc + 1#16 }

/-- DAA completes and changes nothing but A, the flags and `pc`; what it computes is a function of A and the flags alone: two states
that agree on them get the same. -/
def Obligations.DecimalAdjust : Prop :=
  ∀ s : State, ∃ t, exec .daa s = .next t ∧ t = { s with a := t.a, flags := t.flags, pc := s.pc + 1#16 } ∧
    (∀ s', s'.a = s.a → s'.flags = s.flags → exec .daa s' = .next { s' with a := t.a, flags := t.flags, pc := s'.pc + 1#16 })

/-- EI and DI write `inte` and nothing else but `pc`; after EI an `interrupt` is taken at once (the spec's decision D25). -/
def Obligations.InterruptEnableDisable : Prop :=
  ∀ s : State,
    (∃ t, exec .ei s = .next t ∧ t = { s with inte := true, pc := s.pc + 1#16 } ∧
      (s.exit = false → t.interrupt.inte = false ∧ t.interrupt.sp = s.sp - 2#16)) ∧
    exec .di s = .next { s with inte := false, pc := s.pc + 1#16 }

/-- NOP and HLT only advance `pc` by 1, modulo 2^16 (that HLT is a no-op is the spec's decision D10). -/
def Obligations.NoOperation : Prop :=
  ∀ s : State,
    (∃ t, exec .nop s = .next t ∧ t.pc.toNat = (s.pc.toNat + 1) % 65536 ∧ t = { s with pc := t.pc }) ∧
    (∃ t, exec .hlt s = .next t ∧ t.pc.toNat = (s.pc.toNat + 1) % 65536 ∧ t = { s with pc := t.pc })

/-! ### Input and output -/

/-- `ShiftResult()` in arithmetic. -/
def Obligations.ShiftRegisterFormula : Prop :=
  ∀ s : State,
    s.shiftResult.toNat = (256 * s.shHi.toNat + s.shLo.toNat) / 2 ^ (8 - s.shOff.toNat) % 256

/-- IN from each port: 0 the constant, the same in every state; 1 and 2 the port array; 3 the shift result; any other port ends the
run (which ports are unmapped is the spec's decision D31). -/
def Obligations.InputResult : Prop :=
  (∃ k : Byte, ∀ s : State, exec (.inPort 0#8) s = .next { s with a := k, pc := s.pc + 2#16 }) ∧
  (∀ s : State,
    exec (.inPort 1#8) s = .next { s with a := s.ports[1], pc := s.pc + 2#16 } ∧
    exec (.inPort 2#8) s = .next { s with a := s.ports[2], pc := s.pc + 2#16 } ∧
    exec (.inPort 3#8) s = .next { s with a := s.shiftResult, pc := s.pc + 2#16 } ∧
    (∀ p : Byte, 4 ≤ p.toNat → ∃ t, exec (.inPort p) s = .next t ∧ s.endedBy t .unsupportedOpcode (.port .input p)))

/-- OUT to each port: 2 the offset, 4 a byte into the shift register, 3, 5 and 6 nothing; any other port ends the run (the spec's
decision D31). The port array is never written. -/
def Obligations.OutputResult : Prop :=
  ∀ s : State,
    (∃ t, exec (.outPort 2#8) s = .next t ∧ t.shOff.toNat = s.a.toNat % 8 ∧ t = { s with shOff := t.shOff, pc := s.pc + 2#16 }) ∧
    exec (.outPort 4#8) s = .next { s with shLo := s.shHi, shHi := s.a, pc := s.pc + 2#16 } ∧
    (∀ p : Byte, p = 3#8 ∨ p = 5#8 ∨ p = 6#8 → exec (.outPort p) s = .next { s with pc := s.pc + 2#16 }) ∧
    (∀ p : Byte, p.toNat < 2 ∨ 6 < p.toNat →
      ∃ t, exec (.outPort p) s = .next t ∧ s.endedBy t .unsupportedOpcode (.port .output p))

/-- A byte of UNDEFINED_OPCODES (the twelve of the spec's decision D4) ends the run; nothing else but `pc` changes (decision
D12). -/
def Obligations.UndefinedOpcodeEndsRun : Prop :=
  ∀ (s : State) (op b1 b2 : Byte),
    op ∈ [0x08#8, 0x10#8, 0x18#8, 0x20#8, 0x28#8, 0x30#8, 0x38#8, 0xCB#8, 0xD9#8, 0xDD#8, 0xED#8, 0xFD#8] →
    ∃ t, exec (decode op b1 b2) s = .next t ∧ s.endedBy t .unsupportedOpcode (.opcode op)

/-! ### The host: interrupts, loading, port writes -/

/-- `interrupt` when interrupts are disabled changes nothing (rule R283); when they are enabled and the run has not ended, `inte` is
cleared, `pc` is pushed, control goes to 0x0008 or 0x0010 (the spec's decision D16) and `ivsel` is toggled. -/
def Obligations.InterruptController : Prop :=
  ∀ s : State,
    (s.inte = false → s.interrupt = s) ∧
    (s.exit = false → s.inte = true →
      s.pushed { s.interrupt with inte := s.inte, ivsel := s.ivsel } s.pc ∧
      s.interrupt.pc = (if s.ivsel = false then 0x0008#16 else 0x0010#16) ∧
      s.interrupt.inte = false ∧ s.interrupt.ivsel = !s.ivsel)

/-- A second call straight after an accepted one is dropped; once `inte` is set again, the next accepted one goes to the other
vector. -/
def Obligations.InterruptVectorsAlternate : Prop :=
  ∀ s u : State, s.exit = false → s.inte = true →
    s.interrupt.interrupt = s.interrupt ∧
    (u.exit = false → u.inte = true → u.ivsel = s.interrupt.ivsel → u.interrupt.pc ≠ s.interrupt.pc)

/-- The host's turns of the schedule: `interrupt`; a port write, which changes that entry alone; `load` before the first step, which
changes the bytes it names alone, and which is refused outside memory and after the first step. The schedule and the
mark of the first step are the model's own (log entries 9, 10); that a port write changes its entry after the end of the run too is
log entry 31. -/
def Obligations.HostTurns : Prop :=
  ∀ (s : State) (rest : List Turn),
    (s.sched = .interrupt :: rest → step s = .next ({ s with sched := rest } : State).interrupt) ∧
    (∀ i v, s.sched = .writePort i v :: rest →
      ∃ t, step s = .next t ∧ t = { s with sched := rest, ports := t.ports } ∧
        ∀ j : Fin 8, t.ports[j] = if j = i then v else s.ports[j]) ∧
    (∀ base bytes, s.sched = .load base bytes :: rest →
      if s.started = true then step s = .refused .loadAfterFirstStep
      else if base + bytes.length ≤ 65536 then
        ∃ t, step s = .next t ∧ t = { s with sched := rest, mem := t.mem } ∧
          ∀ x : Word, t.readByte x =
            if h : base ≤ x.toNat ∧ x.toNat < base + bytes.length then bytes[x.toNat - base]'(by omega) else s.readByte x
      else step s = .refused .loadOutsideMemory)

/-! ### Whole-machine rules -/

/-- Every instruction completes in every state: `exec` answers a next state, but for the diagnostic string with no sentinel. -/
def Obligations.EveryInstructionCompletes : Prop :=
  ∀ (i : Instr) (s : State),
    (∃ t, exec i s = .next t) ∨
    (i = .call 0x0005#16 ∧ s.diagEnabled = true ∧ s.c = 0x09#8 ∧ (∀ x, s.readByte x ≠ 0x24#8) ∧
      exec i s = .refused .diagStringUnterminated)

/-- Every byte an instruction does not store to, by the addresses `instrStores` computes, reads as before. -/
def Obligations.MemoryFrame : Prop :=
  ∀ (i : Instr) (s t : State), exec i s = .next t → ∀ x : Word, x ∉ instrStores i s → t.readByte x = s.readByte x

/-- Every register that is no destination of the instruction is as before, and `sp` unless the instruction writes it. -/
def Obligations.RegisterFrame : Prop :=
  ∀ (i : Instr) (s t : State), exec i s = .next t →
    (∀ r : R8, r ≠ .m → r ∉ instrRegWrites i → t.get8 r = s.get8 r) ∧ (instrWritesSp i = false → t.sp = s.sp)

/-- Every flag outside the instruction's row of the flag table is as before. -/
def Obligations.FlagFrame : Prop :=
  ∀ (i : Instr) (s t : State), exec i s = .next t →
    ((instrFlagWrites i).cy = false → t.flags.cy = s.flags.cy) ∧
    ((instrFlagWrites i).z = false → t.flags.z = s.flags.z) ∧
    ((instrFlagWrites i).s = false → t.flags.s = s.flags.s) ∧
    ((instrFlagWrites i).p = false → t.flags.p = s.flags.p) ∧
    ((instrFlagWrites i).ac = false → t.flags.ac = s.flags.ac)

/-- Only EI and DI write `inte`, only OUT the shift register, only CALL the diagnostic buffer; no instruction writes `ivsel`, the port
array, the mode, the schedule or the begun mark. -/
def Obligations.ControlAndPeripheralFrame : Prop :=
  ∀ (i : Instr) (s t : State), exec i s = .next t →
    (i ≠ .ei → i ≠ .di → t.inte = s.inte) ∧
    ((∀ p, i ≠ .outPort p) → t.shHi = s.shHi ∧ t.shLo = s.shLo ∧ t.shOff = s.shOff) ∧
    ((∀ w, i ≠ .call w) → t.diag = s.diag) ∧
    t.ivsel = s.ivsel ∧ t.ports = s.ports ∧ t.diagEnabled = s.diagEnabled ∧ t.sched = s.sched ∧ t.started = s.started

/-- Only an undefined opcode, IN and OUT end the run with UnsupportedOpcode, only JMP and the conditional jumps with ResetJump, and
an instruction that ends the run does nothing else; every other outcome leaves `exit`, `cause` and `info` as they were. -/
def Obligations.OnlyTheseEndTheRun : Prop :=
  ∀ (i : Instr) (s t : State), exec i s = .next t →
    (t.exit = s.exit ∧ t.cause = s.cause ∧ t.info = s.info) ∨
    (∃ cause info, instrMayEnd i = some cause ∧ s.endedBy t cause info)
end

