-- ==== Sys2Proof/Laws/State.lean ====
section
/-! SUPPORT. What each update of the state does to each field: one lemma per field per update, so that no later proof unfolds a
record update. A field an update computes case by case has its lemma in Laws/Ops.lean. -/

namespace Sys2Proof.Machine

variable (s : State)

@[simp] theorem writeByte_a (x : Word) (v : Byte) : (State.writeByte x v s).a = s.a := by rw [State.writeByte]
@[simp] theorem writeByte_b (x : Word) (v : Byte) : (State.writeByte x v s).b = s.b := by rw [State.writeByte]
@[simp] theorem writeByte_c (x : Word) (v : Byte) : (State.writeByte x v s).c = s.c := by rw [State.writeByte]
@[simp] theorem writeByte_d (x : Word) (v : Byte) : (State.writeByte x v s).d = s.d := by rw [State.writeByte]
@[simp] theorem writeByte_e (x : Word) (v : Byte) : (State.writeByte x v s).e = s.e := by rw [State.writeByte]
@[simp] theorem writeByte_h (x : Word) (v : Byte) : (State.writeByte x v s).h = s.h := by rw [State.writeByte]
@[simp] theorem writeByte_l (x : Word) (v : Byte) : (State.writeByte x v s).l = s.l := by rw [State.writeByte]
@[simp] theorem writeByte_flags (x : Word) (v : Byte) : (State.writeByte x v s).flags = s.flags := by rw [State.writeByte]
@[simp] theorem writeByte_pc (x : Word) (v : Byte) : (State.writeByte x v s).pc = s.pc := by rw [State.writeByte]
@[simp] theorem writeByte_sp (x : Word) (v : Byte) : (State.writeByte x v s).sp = s.sp := by rw [State.writeByte]
@[simp] theorem writeByte_inte (x : Word) (v : Byte) : (State.writeByte x v s).inte = s.inte := by rw [State.writeByte]
@[simp] theorem writeByte_exit (x : Word) (v : Byte) : (State.writeByte x v s).exit = s.exit := by rw [State.writeByte]
@[simp] theorem writeByte_cause (x : Word) (v : Byte) : (State.writeByte x v s).cause = s.cause := by rw [State.writeByte]
@[simp] theorem writeByte_info (x : Word) (v : Byte) : (State.writeByte x v s).info = s.info := by rw [State.writeByte]
@[simp] theorem writeByte_mem (x : Word) (v : Byte) : (State.writeByte x v s).mem = Memory.write s.mem x.toNat v := by rw [State.writeByte]
@[simp] theorem writeByte_ports (x : Word) (v : Byte) : (State.writeByte x v s).ports = s.ports := by rw [State.writeByte]
@[simp] theorem writeByte_shHi (x : Word) (v : Byte) : (State.writeByte x v s).shHi = s.shHi := by rw [State.writeByte]
@[simp] theorem writeByte_shLo (x : Word) (v : Byte) : (State.writeByte x v s).shLo = s.shLo := by rw [State.writeByte]
@[simp] theorem writeByte_shOff (x : Word) (v : Byte) : (State.writeByte x v s).shOff = s.shOff := by rw [State.writeByte]
@[simp] theorem writeByte_diag (x : Word) (v : Byte) : (State.writeByte x v s).diag = s.diag := by rw [State.writeByte]
@[simp] theorem writeByte_ivsel (x : Word) (v : Byte) : (State.writeByte x v s).ivsel = s.ivsel := by rw [State.writeByte]
@[simp] theorem writeByte_diagEnabled (x : Word) (v : Byte) : (State.writeByte x v s).diagEnabled = s.diagEnabled := by rw [State.writeByte]
@[simp] theorem writeByte_draws (x : Word) (v : Byte) : (State.writeByte x v s).draws = s.draws := by rw [State.writeByte]
@[simp] theorem writeByte_sched (x : Word) (v : Byte) : (State.writeByte x v s).sched = s.sched := by rw [State.writeByte]
@[simp] theorem writeByte_started (x : Word) (v : Byte) : (State.writeByte x v s).started = s.started := by rw [State.writeByte]

@[simp] theorem setSp_a (v : Word) : (State.setSp v s).a = s.a := by rw [State.setSp]
@[simp] theorem setSp_b (v : Word) : (State.setSp v s).b = s.b := by rw [State.setSp]
@[simp] theorem setSp_c (v : Word) : (State.setSp v s).c = s.c := by rw [State.setSp]
@[simp] theorem setSp_d (v : Word) : (State.setSp v s).d = s.d := by rw [State.setSp]
@[simp] theorem setSp_e (v : Word) : (State.setSp v s).e = s.e := by rw [State.setSp]
@[simp] theorem setSp_h (v : Word) : (State.setSp v s).h = s.h := by rw [State.setSp]
@[simp] theorem setSp_l (v : Word) : (State.setSp v s).l = s.l := by rw [State.setSp]
@[simp] theorem setSp_flags (v : Word) : (State.setSp v s).flags = s.flags := by rw [State.setSp]
@[simp] theorem setSp_pc (v : Word) : (State.setSp v s).pc = s.pc := by rw [State.setSp]
@[simp] theorem setSp_sp (v : Word) : (State.setSp v s).sp = v := by rw [State.setSp]
@[simp] theorem setSp_inte (v : Word) : (State.setSp v s).inte = s.inte := by rw [State.setSp]
@[simp] theorem setSp_exit (v : Word) : (State.setSp v s).exit = s.exit := by rw [State.setSp]
@[simp] theorem setSp_cause (v : Word) : (State.setSp v s).cause = s.cause := by rw [State.setSp]
@[simp] theorem setSp_info (v : Word) : (State.setSp v s).info = s.info := by rw [State.setSp]
@[simp] theorem setSp_mem (v : Word) : (State.setSp v s).mem = s.mem := by rw [State.setSp]
@[simp] theorem setSp_ports (v : Word) : (State.setSp v s).ports = s.ports := by rw [State.setSp]
@[simp] theorem setSp_shHi (v : Word) : (State.setSp v s).shHi = s.shHi := by rw [State.setSp]
@[simp] theorem setSp_shLo (v : Word) : (State.setSp v s).shLo = s.shLo := by rw [State.setSp]
@[simp] theorem setSp_shOff (v : Word) : (State.setSp v s).shOff = s.shOff := by rw [State.setSp]
@[simp] theorem setSp_diag (v : Word) : (State.setSp v s).diag = s.diag := by rw [State.setSp]
@[simp] theorem setSp_ivsel (v : Word) : (State.setSp v s).ivsel = s.ivsel := by rw [State.setSp]
@[simp] theorem setSp_diagEnabled (v : Word) : (State.setSp v s).diagEnabled = s.diagEnabled := by rw [State.setSp]
@[simp] theorem setSp_draws (v : Word) : (State.setSp v s).draws = s.draws := by rw [State.setSp]
@[simp] theorem setSp_sched (v : Word) : (State.setSp v s).sched = s.sched := by rw [State.setSp]
@[simp] theorem setSp_started (v : Word) : (State.setSp v s).started = s.started := by rw [State.setSp]

@[simp] theorem writeWord_a (x v : Word) : (State.writeWord x v s).a = s.a := by simp only [State.writeWord, writeByte_a]
@[simp] theorem writeWord_b (x v : Word) : (State.writeWord x v s).b = s.b := by simp only [State.writeWord, writeByte_b]
@[simp] theorem writeWord_c (x v : Word) : (State.writeWord x v s).c = s.c := by simp only [State.writeWord, writeByte_c]
@[simp] theorem writeWord_d (x v : Word) : (State.writeWord x v s).d = s.d := by simp only [State.writeWord, writeByte_d]
@[simp] theorem writeWord_e (x v : Word) : (State.writeWord x v s).e = s.e := by simp only [State.writeWord, writeByte_e]
@[simp] theorem writeWord_h (x v : Word) : (State.writeWord x v s).h = s.h := by simp only [State.writeWord, writeByte_h]
@[simp] theorem writeWord_l (x v : Word) : (State.writeWord x v s).l = s.l := by simp only [State.writeWord, writeByte_l]
@[simp] theorem writeWord_flags (x v : Word) : (State.writeWord x v s).flags = s.flags := by simp only [State.writeWord, writeByte_flags]
@[simp] theorem writeWord_pc (x v : Word) : (State.writeWord x v s).pc = s.pc := by simp only [State.writeWord, writeByte_pc]
@[simp] theorem writeWord_sp (x v : Word) : (State.writeWord x v s).sp = s.sp := by simp only [State.writeWord, writeByte_sp]
@[simp] theorem writeWord_inte (x v : Word) : (State.writeWord x v s).inte = s.inte := by simp only [State.writeWord, writeByte_inte]
@[simp] theorem writeWord_exit (x v : Word) : (State.writeWord x v s).exit = s.exit := by simp only [State.writeWord, writeByte_exit]
@[simp] theorem writeWord_cause (x v : Word) : (State.writeWord x v s).cause = s.cause := by simp only [State.writeWord, writeByte_cause]
@[simp] theorem writeWord_info (x v : Word) : (State.writeWord x v s).info = s.info := by simp only [State.writeWord, writeByte_info]
@[simp] theorem writeWord_ports (x v : Word) : (State.writeWord x v s).ports = s.ports := by simp only [State.writeWord, writeByte_ports]
@[simp] theorem writeWord_shHi (x v : Word) : (State.writeWord x v s).shHi = s.shHi := by simp only [State.writeWord, writeByte_shHi]
@[simp] theorem writeWord_shLo (x v : Word) : (State.writeWord x v s).shLo = s.shLo := by simp only [State.writeWord, writeByte_shLo]
@[simp] theorem writeWord_shOff (x v : Word) : (State.writeWord x v s).shOff = s.shOff := by simp only [State.writeWord, writeByte_shOff]
@[simp] theorem writeWord_diag (x v : Word) : (State.writeWord x v s).diag = s.diag := by simp only [State.writeWord, writeByte_diag]
@[simp] theorem writeWord_ivsel (x v : Word) : (State.writeWord x v s).ivsel = s.ivsel := by simp only [State.writeWord, writeByte_ivsel]
@[simp] theorem writeWord_diagEnabled (x v : Word) : (State.writeWord x v s).diagEnabled = s.diagEnabled := by simp only [State.writeWord, writeByte_diagEnabled]
@[simp] theorem writeWord_draws (x v : Word) : (State.writeWord x v s).draws = s.draws := by simp only [State.writeWord, writeByte_draws]
@[simp] theorem writeWord_sched (x v : Word) : (State.writeWord x v s).sched = s.sched := by simp only [State.writeWord, writeByte_sched]
@[simp] theorem writeWord_started (x v : Word) : (State.writeWord x v s).started = s.started := by simp only [State.writeWord, writeByte_started]

@[simp] theorem push16_a (v : Word) : (State.push16 v s).a = s.a := by simp only [State.push16, writeByte_a, setSp_a]
@[simp] theorem push16_b (v : Word) : (State.push16 v s).b = s.b := by simp only [State.push16, writeByte_b, setSp_b]
@[simp] theorem push16_c (v : Word) : (State.push16 v s).c = s.c := by simp only [State.push16, writeByte_c, setSp_c]
@[simp] theorem push16_d (v : Word) : (State.push16 v s).d = s.d := by simp only [State.push16, writeByte_d, setSp_d]
@[simp] theorem push16_e (v : Word) : (State.push16 v s).e = s.e := by simp only [State.push16, writeByte_e, setSp_e]
@[simp] theorem push16_h (v : Word) : (State.push16 v s).h = s.h := by simp only [State.push16, writeByte_h, setSp_h]
@[simp] theorem push16_l (v : Word) : (State.push16 v s).l = s.l := by simp only [State.push16, writeByte_l, setSp_l]
@[simp] theorem push16_flags (v : Word) : (State.push16 v s).flags = s.flags := by simp only [State.push16, writeByte_flags, setSp_flags]
@[simp] theorem push16_pc (v : Word) : (State.push16 v s).pc = s.pc := by simp only [State.push16, writeByte_pc, setSp_pc]
@[simp] theorem push16_sp (v : Word) : (State.push16 v s).sp = s.sp - 1#16 - 1#16 := by simp only [State.push16, writeByte_sp, setSp_sp]
@[simp] theorem push16_inte (v : Word) : (State.push16 v s).inte = s.inte := by simp only [State.push16, writeByte_inte, setSp_inte]
@[simp] theorem push16_exit (v : Word) : (State.push16 v s).exit = s.exit := by simp only [State.push16, writeByte_exit, setSp_exit]
@[simp] theorem push16_cause (v : Word) : (State.push16 v s).cause = s.cause := by simp only [State.push16, writeByte_cause, setSp_cause]
@[simp] theorem push16_info (v : Word) : (State.push16 v s).info = s.info := by simp only [State.push16, writeByte_info, setSp_info]
@[simp] theorem push16_ports (v : Word) : (State.push16 v s).ports = s.ports := by simp only [State.push16, writeByte_ports, setSp_ports]
@[simp] theorem push16_shHi (v : Word) : (State.push16 v s).shHi = s.shHi := by simp only [State.push16, writeByte_shHi, setSp_shHi]
@[simp] theorem push16_shLo (v : Word) : (State.push16 v s).shLo = s.shLo := by simp only [State.push16, writeByte_shLo, setSp_shLo]
@[simp] theorem push16_shOff (v : Word) : (State.push16 v s).shOff = s.shOff := by simp only [State.push16, writeByte_shOff, setSp_shOff]
@[simp] theorem push16_diag (v : Word) : (State.push16 v s).diag = s.diag := by simp only [State.push16, writeByte_diag, setSp_diag]
@[simp] theorem push16_ivsel (v : Word) : (State.push16 v s).ivsel = s.ivsel := by simp only [State.push16, writeByte_ivsel, setSp_ivsel]
@[simp] theorem push16_diagEnabled (v : Word) : (State.push16 v s).diagEnabled = s.diagEnabled := by simp only [State.push16, writeByte_diagEnabled, setSp_diagEnabled]
@[simp] theorem push16_draws (v : Word) : (State.push16 v s).draws = s.draws := by simp only [State.push16, writeByte_draws, setSp_draws]
@[simp] theorem push16_sched (v : Word) : (State.push16 v s).sched = s.sched := by simp only [State.push16, writeByte_sched, setSp_sched]
@[simp] theorem push16_started (v : Word) : (State.push16 v s).started = s.started := by simp only [State.push16, writeByte_started, setSp_started]

@[simp] theorem drop_a : (State.drop s).a = s.a := by simp only [State.drop, setSp_a]
@[simp] theorem drop_b : (State.drop s).b = s.b := by simp only [State.drop, setSp_b]
@[simp] theorem drop_c : (State.drop s).c = s.c := by simp only [State.drop, setSp_c]
@[simp] theorem drop_d : (State.drop s).d = s.d := by simp only [State.drop, setSp_d]
@[simp] theorem drop_e : (State.drop s).e = s.e := by simp only [State.drop, setSp_e]
@[simp] theorem drop_h : (State.drop s).h = s.h := by simp only [State.drop, setSp_h]
@[simp] theorem drop_l : (State.drop s).l = s.l := by simp only [State.drop, setSp_l]
@[simp] theorem drop_flags : (State.drop s).flags = s.flags := by simp only [State.drop, setSp_flags]
@[simp] theorem drop_pc : (State.drop s).pc = s.pc := by simp only [State.drop, setSp_pc]
@[simp] theorem drop_sp : (State.drop s).sp = s.sp + 2#16 := by simp only [State.drop, setSp_sp]
@[simp] theorem drop_inte : (State.drop s).inte = s.inte := by simp only [State.drop, setSp_inte]
@[simp] theorem drop_exit : (State.drop s).exit = s.exit := by simp only [State.drop, setSp_exit]
@[simp] theorem drop_cause : (State.drop s).cause = s.cause := by simp only [State.drop, setSp_cause]
@[simp] theorem drop_info : (State.drop s).info = s.info := by simp only [State.drop, setSp_info]
@[simp] theorem drop_mem : (State.drop s).mem = s.mem := by simp only [State.drop, setSp_mem]
@[simp] theorem drop_ports : (State.drop s).ports = s.ports := by simp only [State.drop, setSp_ports]
@[simp] theorem drop_shHi : (State.drop s).shHi = s.shHi := by simp only [State.drop, setSp_shHi]
@[simp] theorem drop_shLo : (State.drop s).shLo = s.shLo := by simp only [State.drop, setSp_shLo]
@[simp] theorem drop_shOff : (State.drop s).shOff = s.shOff := by simp only [State.drop, setSp_shOff]
@[simp] theorem drop_diag : (State.drop s).diag = s.diag := by simp only [State.drop, setSp_diag]
@[simp] theorem drop_ivsel : (State.drop s).ivsel = s.ivsel := by simp only [State.drop, setSp_ivsel]
@[simp] theorem drop_diagEnabled : (State.drop s).diagEnabled = s.diagEnabled := by simp only [State.drop, setSp_diagEnabled]
@[simp] theorem drop_draws : (State.drop s).draws = s.draws := by simp only [State.drop, setSp_draws]
@[simp] theorem drop_sched : (State.drop s).sched = s.sched := by simp only [State.drop, setSp_sched]
@[simp] theorem drop_started : (State.drop s).started = s.started := by simp only [State.drop, setSp_started]

@[simp] theorem advance_a (n : Word) : (State.advance n s).a = s.a := by rw [State.advance]
@[simp] theorem advance_b (n : Word) : (State.advance n s).b = s.b := by rw [State.advance]
@[simp] theorem advance_c (n : Word) : (State.advance n s).c = s.c := by rw [State.advance]
@[simp] theorem advance_d (n : Word) : (State.advance n s).d = s.d := by rw [State.advance]
@[simp] theorem advance_e (n : Word) : (State.advance n s).e = s.e := by rw [State.advance]
@[simp] theorem advance_h (n : Word) : (State.advance n s).h = s.h := by rw [State.advance]
@[simp] theorem advance_l (n : Word) : (State.advance n s).l = s.l := by rw [State.advance]
@[simp] theorem advance_flags (n : Word) : (State.advance n s).flags = s.flags := by rw [State.advance]
@[simp] theorem advance_pc (n : Word) : (State.advance n s).pc = s.pc + n := by rw [State.advance]
@[simp] theorem advance_sp (n : Word) : (State.advance n s).sp = s.sp := by rw [State.advance]
@[simp] theorem advance_inte (n : Word) : (State.advance n s).inte = s.inte := by rw [State.advance]
@[simp] theorem advance_exit (n : Word) : (State.advance n s).exit = s.exit := by rw [State.advance]
@[simp] theorem advance_cause (n : Word) : (State.advance n s).cause = s.cause := by rw [State.advance]
@[simp] theorem advance_info (n : Word) : (State.advance n s).info = s.info := by rw [State.advance]
@[simp] theorem advance_mem (n : Word) : (State.advance n s).mem = s.mem := by rw [State.advance]
@[simp] theorem advance_ports (n : Word) : (State.advance n s).ports = s.ports := by rw [State.advance]
@[simp] theorem advance_shHi (n : Word) : (State.advance n s).shHi = s.shHi := by rw [State.advance]
@[simp] theorem advance_shLo (n : Word) : (State.advance n s).shLo = s.shLo := by rw [State.advance]
@[simp] theorem advance_shOff (n : Word) : (State.advance n s).shOff = s.shOff := by rw [State.advance]
@[simp] theorem advance_diag (n : Word) : (State.advance n s).diag = s.diag := by rw [State.advance]
@[simp] theorem advance_ivsel (n : Word) : (State.advance n s).ivsel = s.ivsel := by rw [State.advance]
@[simp] theorem advance_diagEnabled (n : Word) : (State.advance n s).diagEnabled = s.diagEnabled := by rw [State.advance]
@[simp] theorem advance_draws (n : Word) : (State.advance n s).draws = s.draws := by rw [State.advance]
@[simp] theorem advance_sched (n : Word) : (State.advance n s).sched = s.sched := by rw [State.advance]
@[simp] theorem advance_started (n : Word) : (State.advance n s).started = s.started := by rw [State.advance]

@[simp] theorem setPc_a (w : Word) : (State.setPc w s).a = s.a := by rw [State.setPc]
@[simp] theorem setPc_b (w : Word) : (State.setPc w s).b = s.b := by rw [State.setPc]
@[simp] theorem setPc_c (w : Word) : (State.setPc w s).c = s.c := by rw [State.setPc]
@[simp] theorem setPc_d (w : Word) : (State.setPc w s).d = s.d := by rw [State.setPc]
@[simp] theorem setPc_e (w : Word) : (State.setPc w s).e = s.e := by rw [State.setPc]
@[simp] theorem setPc_h (w : Word) : (State.setPc w s).h = s.h := by rw [State.setPc]
@[simp] theorem setPc_l (w : Word) : (State.setPc w s).l = s.l := by rw [State.setPc]
@[simp] theorem setPc_flags (w : Word) : (State.setPc w s).flags = s.flags := by rw [State.setPc]
@[simp] theorem setPc_pc (w : Word) : (State.setPc w s).pc = w := by rw [State.setPc]
@[simp] theorem setPc_sp (w : Word) : (State.setPc w s).sp = s.sp := by rw [State.setPc]
@[simp] theorem setPc_inte (w : Word) : (State.setPc w s).inte = s.inte := by rw [State.setPc]
@[simp] theorem setPc_exit (w : Word) : (State.setPc w s).exit = s.exit := by rw [State.setPc]
@[simp] theorem setPc_cause (w : Word) : (State.setPc w s).cause = s.cause := by rw [State.setPc]
@[simp] theorem setPc_info (w : Word) : (State.setPc w s).info = s.info := by rw [State.setPc]
@[simp] theorem setPc_mem (w : Word) : (State.setPc w s).mem = s.mem := by rw [State.setPc]
@[simp] theorem setPc_ports (w : Word) : (State.setPc w s).ports = s.ports := by rw [State.setPc]
@[simp] theorem setPc_shHi (w : Word) : (State.setPc w s).shHi = s.shHi := by rw [State.setPc]
@[simp] theorem setPc_shLo (w : Word) : (State.setPc w s).shLo = s.shLo := by rw [State.setPc]
@[simp] theorem setPc_shOff (w : Word) : (State.setPc w s).shOff = s.shOff := by rw [State.setPc]
@[simp] theorem setPc_diag (w : Word) : (State.setPc w s).diag = s.diag := by rw [State.setPc]
@[simp] theorem setPc_ivsel (w : Word) : (State.setPc w s).ivsel = s.ivsel := by rw [State.setPc]
@[simp] theorem setPc_diagEnabled (w : Word) : (State.setPc w s).diagEnabled = s.diagEnabled := by rw [State.setPc]
@[simp] theorem setPc_draws (w : Word) : (State.setPc w s).draws = s.draws := by rw [State.setPc]
@[simp] theorem setPc_sched (w : Word) : (State.setPc w s).sched = s.sched := by rw [State.setPc]
@[simp] theorem setPc_started (w : Word) : (State.setPc w s).started = s.started := by rw [State.setPc]

@[simp] theorem vectored_a : (State.vectored s).a = s.a := by rw [State.vectored]
@[simp] theorem vectored_b : (State.vectored s).b = s.b := by rw [State.vectored]
@[simp] theorem vectored_c : (State.vectored s).c = s.c := by rw [State.vectored]
@[simp] theorem vectored_d : (State.vectored s).d = s.d := by rw [State.vectored]
@[simp] theorem vectored_e : (State.vectored s).e = s.e := by rw [State.vectored]
@[simp] theorem vectored_h : (State.vectored s).h = s.h := by rw [State.vectored]
@[simp] theorem vectored_l : (State.vectored s).l = s.l := by rw [State.vectored]
@[simp] theorem vectored_flags : (State.vectored s).flags = s.flags := by rw [State.vectored]
@[simp] theorem vectored_pc : (State.vectored s).pc = (if s.ivsel then Config.intVector1 else Config.intVector0) := by rw [State.vectored]
@[simp] theorem vectored_sp : (State.vectored s).sp = s.sp := by rw [State.vectored]
@[simp] theorem vectored_inte : (State.vectored s).inte = false := by rw [State.vectored]
@[simp] theorem vectored_exit : (State.vectored s).exit = s.exit := by rw [State.vectored]
@[simp] theorem vectored_cause : (State.vectored s).cause = s.cause := by rw [State.vectored]
@[simp] theorem vectored_info : (State.vectored s).info = s.info := by rw [State.vectored]
@[simp] theorem vectored_mem : (State.vectored s).mem = s.mem := by rw [State.vectored]
@[simp] theorem vectored_ports : (State.vectored s).ports = s.ports := by rw [State.vectored]
@[simp] theorem vectored_shHi : (State.vectored s).shHi = s.shHi := by rw [State.vectored]
@[simp] theorem vectored_shLo : (State.vectored s).shLo = s.shLo := by rw [State.vectored]
@[simp] theorem vectored_shOff : (State.vectored s).shOff = s.shOff := by rw [State.vectored]
@[simp] theorem vectored_diag : (State.vectored s).diag = s.diag := by rw [State.vectored]
@[simp] theorem vectored_ivsel : (State.vectored s).ivsel = !s.ivsel := by rw [State.vectored]
@[simp] theorem vectored_diagEnabled : (State.vectored s).diagEnabled = s.diagEnabled := by rw [State.vectored]
@[simp] theorem vectored_draws : (State.vectored s).draws = s.draws := by rw [State.vectored]
@[simp] theorem vectored_sched : (State.vectored s).sched = s.sched := by rw [State.vectored]
@[simp] theorem vectored_started : (State.vectored s).started = s.started := by rw [State.vectored]

@[simp] theorem enterInterrupt_a : (State.enterInterrupt s).a = s.a := by simp only [State.enterInterrupt, vectored_a, push16_a]
@[simp] theorem enterInterrupt_b : (State.enterInterrupt s).b = s.b := by simp only [State.enterInterrupt, vectored_b, push16_b]
@[simp] theorem enterInterrupt_c : (State.enterInterrupt s).c = s.c := by simp only [State.enterInterrupt, vectored_c, push16_c]
@[simp] theorem enterInterrupt_d : (State.enterInterrupt s).d = s.d := by simp only [State.enterInterrupt, vectored_d, push16_d]
@[simp] theorem enterInterrupt_e : (State.enterInterrupt s).e = s.e := by simp only [State.enterInterrupt, vectored_e, push16_e]
@[simp] theorem enterInterrupt_h : (State.enterInterrupt s).h = s.h := by simp only [State.enterInterrupt, vectored_h, push16_h]
@[simp] theorem enterInterrupt_l : (State.enterInterrupt s).l = s.l := by simp only [State.enterInterrupt, vectored_l, push16_l]
@[simp] theorem enterInterrupt_flags : (State.enterInterrupt s).flags = s.flags := by simp only [State.enterInterrupt, vectored_flags, push16_flags]
@[simp] theorem enterInterrupt_pc : (State.enterInterrupt s).pc = (if s.ivsel then Config.intVector1 else Config.intVector0) := by simp only [State.enterInterrupt, vectored_pc, push16_ivsel]
@[simp] theorem enterInterrupt_sp : (State.enterInterrupt s).sp = s.sp - 1#16 - 1#16 := by simp only [State.enterInterrupt, vectored_sp, push16_sp]
@[simp] theorem enterInterrupt_inte : (State.enterInterrupt s).inte = false := by simp only [State.enterInterrupt, vectored_inte]
@[simp] theorem enterInterrupt_exit : (State.enterInterrupt s).exit = s.exit := by simp only [State.enterInterrupt, vectored_exit, push16_exit]
@[simp] theorem enterInterrupt_cause : (State.enterInterrupt s).cause = s.cause := by simp only [State.enterInterrupt, vectored_cause, push16_cause]
@[simp] theorem enterInterrupt_info : (State.enterInterrupt s).info = s.info := by simp only [State.enterInterrupt, vectored_info, push16_info]
@[simp] theorem enterInterrupt_mem : (State.enterInterrupt s).mem = (State.push16 s.pc s).mem := by simp only [State.enterInterrupt, vectored_mem]
@[simp] theorem enterInterrupt_ports : (State.enterInterrupt s).ports = s.ports := by simp only [State.enterInterrupt, vectored_ports, push16_ports]
@[simp] theorem enterInterrupt_shHi : (State.enterInterrupt s).shHi = s.shHi := by simp only [State.enterInterrupt, vectored_shHi, push16_shHi]
@[simp] theorem enterInterrupt_shLo : (State.enterInterrupt s).shLo = s.shLo := by simp only [State.enterInterrupt, vectored_shLo, push16_shLo]
@[simp] theorem enterInterrupt_shOff : (State.enterInterrupt s).shOff = s.shOff := by simp only [State.enterInterrupt, vectored_shOff, push16_shOff]
@[simp] theorem enterInterrupt_diag : (State.enterInterrupt s).diag = s.diag := by simp only [State.enterInterrupt, vectored_diag, push16_diag]
@[simp] theorem enterInterrupt_ivsel : (State.enterInterrupt s).ivsel = !s.ivsel := by simp only [State.enterInterrupt, vectored_ivsel, push16_ivsel, push16_ivsel]
@[simp] theorem enterInterrupt_diagEnabled : (State.enterInterrupt s).diagEnabled = s.diagEnabled := by simp only [State.enterInterrupt, vectored_diagEnabled, push16_diagEnabled]
@[simp] theorem enterInterrupt_draws : (State.enterInterrupt s).draws = s.draws := by simp only [State.enterInterrupt, vectored_draws, push16_draws]
@[simp] theorem enterInterrupt_sched : (State.enterInterrupt s).sched = s.sched := by simp only [State.enterInterrupt, vectored_sched, push16_sched]
@[simp] theorem enterInterrupt_started : (State.enterInterrupt s).started = s.started := by simp only [State.enterInterrupt, vectored_started, push16_started]

@[simp] theorem popPc_a : (State.popPc s).a = s.a := by simp only [State.popPc, setPc_a, drop_a]
@[simp] theorem popPc_b : (State.popPc s).b = s.b := by simp only [State.popPc, setPc_b, drop_b]
@[simp] theorem popPc_c : (State.popPc s).c = s.c := by simp only [State.popPc, setPc_c, drop_c]
@[simp] theorem popPc_d : (State.popPc s).d = s.d := by simp only [State.popPc, setPc_d, drop_d]
@[simp] theorem popPc_e : (State.popPc s).e = s.e := by simp only [State.popPc, setPc_e, drop_e]
@[simp] theorem popPc_h : (State.popPc s).h = s.h := by simp only [State.popPc, setPc_h, drop_h]
@[simp] theorem popPc_l : (State.popPc s).l = s.l := by simp only [State.popPc, setPc_l, drop_l]
@[simp] theorem popPc_flags : (State.popPc s).flags = s.flags := by simp only [State.popPc, setPc_flags, drop_flags]
@[simp] theorem popPc_pc : (State.popPc s).pc = s.top := by simp only [State.popPc, setPc_pc]
@[simp] theorem popPc_sp : (State.popPc s).sp = s.sp + 2#16 := by simp only [State.popPc, setPc_sp, drop_sp]
@[simp] theorem popPc_inte : (State.popPc s).inte = s.inte := by simp only [State.popPc, setPc_inte, drop_inte]
@[simp] theorem popPc_exit : (State.popPc s).exit = s.exit := by simp only [State.popPc, setPc_exit, drop_exit]
@[simp] theorem popPc_cause : (State.popPc s).cause = s.cause := by simp only [State.popPc, setPc_cause, drop_cause]
@[simp] theorem popPc_info : (State.popPc s).info = s.info := by simp only [State.popPc, setPc_info, drop_info]
@[simp] theorem popPc_mem : (State.popPc s).mem = s.mem := by simp only [State.popPc, setPc_mem, drop_mem]
@[simp] theorem popPc_ports : (State.popPc s).ports = s.ports := by simp only [State.popPc, setPc_ports, drop_ports]
@[simp] theorem popPc_shHi : (State.popPc s).shHi = s.shHi := by simp only [State.popPc, setPc_shHi, drop_shHi]
@[simp] theorem popPc_shLo : (State.popPc s).shLo = s.shLo := by simp only [State.popPc, setPc_shLo, drop_shLo]
@[simp] theorem popPc_shOff : (State.popPc s).shOff = s.shOff := by simp only [State.popPc, setPc_shOff, drop_shOff]
@[simp] theorem popPc_diag : (State.popPc s).diag = s.diag := by simp only [State.popPc, setPc_diag, drop_diag]
@[simp] theorem popPc_ivsel : (State.popPc s).ivsel = s.ivsel := by simp only [State.popPc, setPc_ivsel, drop_ivsel]
@[simp] theorem popPc_diagEnabled : (State.popPc s).diagEnabled = s.diagEnabled := by simp only [State.popPc, setPc_diagEnabled, drop_diagEnabled]
@[simp] theorem popPc_draws : (State.popPc s).draws = s.draws := by simp only [State.popPc, setPc_draws, drop_draws]
@[simp] theorem popPc_sched : (State.popPc s).sched = s.sched := by simp only [State.popPc, setPc_sched, drop_sched]
@[simp] theorem popPc_started : (State.popPc s).started = s.started := by simp only [State.popPc, setPc_started, drop_started]

@[simp] theorem callTo_a (r w : Word) : (State.callTo r w s).a = s.a := by simp only [State.callTo, setPc_a, push16_a]
@[simp] theorem callTo_b (r w : Word) : (State.callTo r w s).b = s.b := by simp only [State.callTo, setPc_b, push16_b]
@[simp] theorem callTo_c (r w : Word) : (State.callTo r w s).c = s.c := by simp only [State.callTo, setPc_c, push16_c]
@[simp] theorem callTo_d (r w : Word) : (State.callTo r w s).d = s.d := by simp only [State.callTo, setPc_d, push16_d]
@[simp] theorem callTo_e (r w : Word) : (State.callTo r w s).e = s.e := by simp only [State.callTo, setPc_e, push16_e]
@[simp] theorem callTo_h (r w : Word) : (State.callTo r w s).h = s.h := by simp only [State.callTo, setPc_h, push16_h]
@[simp] theorem callTo_l (r w : Word) : (State.callTo r w s).l = s.l := by simp only [State.callTo, setPc_l, push16_l]
@[simp] theorem callTo_flags (r w : Word) : (State.callTo r w s).flags = s.flags := by simp only [State.callTo, setPc_flags, push16_flags]
@[simp] theorem callTo_pc (r w : Word) : (State.callTo r w s).pc = w := by simp only [State.callTo, setPc_pc]
@[simp] theorem callTo_sp (r w : Word) : (State.callTo r w s).sp = s.sp - 1#16 - 1#16 := by simp only [State.callTo, setPc_sp, push16_sp]
@[simp] theorem callTo_inte (r w : Word) : (State.callTo r w s).inte = s.inte := by simp only [State.callTo, setPc_inte, push16_inte]
@[simp] theorem callTo_exit (r w : Word) : (State.callTo r w s).exit = s.exit := by simp only [State.callTo, setPc_exit, push16_exit]
@[simp] theorem callTo_cause (r w : Word) : (State.callTo r w s).cause = s.cause := by simp only [State.callTo, setPc_cause, push16_cause]
@[simp] theorem callTo_info (r w : Word) : (State.callTo r w s).info = s.info := by simp only [State.callTo, setPc_info, push16_info]
@[simp] theorem callTo_mem (r w : Word) : (State.callTo r w s).mem = (State.push16 r s).mem := by simp only [State.callTo, setPc_mem]
@[simp] theorem callTo_ports (r w : Word) : (State.callTo r w s).ports = s.ports := by simp only [State.callTo, setPc_ports, push16_ports]
@[simp] theorem callTo_shHi (r w : Word) : (State.callTo r w s).shHi = s.shHi := by simp only [State.callTo, setPc_shHi, push16_shHi]
@[simp] theorem callTo_shLo (r w : Word) : (State.callTo r w s).shLo = s.shLo := by simp only [State.callTo, setPc_shLo, push16_shLo]
@[simp] theorem callTo_shOff (r w : Word) : (State.callTo r w s).shOff = s.shOff := by simp only [State.callTo, setPc_shOff, push16_shOff]
@[simp] theorem callTo_diag (r w : Word) : (State.callTo r w s).diag = s.diag := by simp only [State.callTo, setPc_diag, push16_diag]
@[simp] theorem callTo_ivsel (r w : Word) : (State.callTo r w s).ivsel = s.ivsel := by simp only [State.callTo, setPc_ivsel, push16_ivsel]
@[simp] theorem callTo_diagEnabled (r w : Word) : (State.callTo r w s).diagEnabled = s.diagEnabled := by simp only [State.callTo, setPc_diagEnabled, push16_diagEnabled]
@[simp] theorem callTo_draws (r w : Word) : (State.callTo r w s).draws = s.draws := by simp only [State.callTo, setPc_draws, push16_draws]
@[simp] theorem callTo_sched (r w : Word) : (State.callTo r w s).sched = s.sched := by simp only [State.callTo, setPc_sched, push16_sched]
@[simp] theorem callTo_started (r w : Word) : (State.callTo r w s).started = s.started := by simp only [State.callTo, setPc_started, push16_started]

@[simp] theorem terminate_a (k : Cause) (i : Info) : (State.terminate k i s).a = s.a := by rw [State.terminate]
@[simp] theorem terminate_b (k : Cause) (i : Info) : (State.terminate k i s).b = s.b := by rw [State.terminate]
@[simp] theorem terminate_c (k : Cause) (i : Info) : (State.terminate k i s).c = s.c := by rw [State.terminate]
@[simp] theorem terminate_d (k : Cause) (i : Info) : (State.terminate k i s).d = s.d := by rw [State.terminate]
@[simp] theorem terminate_e (k : Cause) (i : Info) : (State.terminate k i s).e = s.e := by rw [State.terminate]
@[simp] theorem terminate_h (k : Cause) (i : Info) : (State.terminate k i s).h = s.h := by rw [State.terminate]
@[simp] theorem terminate_l (k : Cause) (i : Info) : (State.terminate k i s).l = s.l := by rw [State.terminate]
@[simp] theorem terminate_flags (k : Cause) (i : Info) : (State.terminate k i s).flags = s.flags := by rw [State.terminate]
@[simp] theorem terminate_pc (k : Cause) (i : Info) : (State.terminate k i s).pc = Config.freePc s.draws := by rw [State.terminate]
@[simp] theorem terminate_sp (k : Cause) (i : Info) : (State.terminate k i s).sp = s.sp := by rw [State.terminate]
@[simp] theorem terminate_inte (k : Cause) (i : Info) : (State.terminate k i s).inte = s.inte := by rw [State.terminate]
@[simp] theorem terminate_exit (k : Cause) (i : Info) : (State.terminate k i s).exit = true := by rw [State.terminate]
@[simp] theorem terminate_cause (k : Cause) (i : Info) : (State.terminate k i s).cause = k := by rw [State.terminate]
@[simp] theorem terminate_info (k : Cause) (i : Info) : (State.terminate k i s).info = some i := by rw [State.terminate]
@[simp] theorem terminate_mem (k : Cause) (i : Info) : (State.terminate k i s).mem = s.mem := by rw [State.terminate]
@[simp] theorem terminate_ports (k : Cause) (i : Info) : (State.terminate k i s).ports = s.ports := by rw [State.terminate]
@[simp] theorem terminate_shHi (k : Cause) (i : Info) : (State.terminate k i s).shHi = s.shHi := by rw [State.terminate]
@[simp] theorem terminate_shLo (k : Cause) (i : Info) : (State.terminate k i s).shLo = s.shLo := by rw [State.terminate]
@[simp] theorem terminate_shOff (k : Cause) (i : Info) : (State.terminate k i s).shOff = s.shOff := by rw [State.terminate]
@[simp] theorem terminate_diag (k : Cause) (i : Info) : (State.terminate k i s).diag = s.diag := by rw [State.terminate]
@[simp] theorem terminate_ivsel (k : Cause) (i : Info) : (State.terminate k i s).ivsel = s.ivsel := by rw [State.terminate]
@[simp] theorem terminate_diagEnabled (k : Cause) (i : Info) : (State.terminate k i s).diagEnabled = s.diagEnabled := by rw [State.terminate]
@[simp] theorem terminate_draws (k : Cause) (i : Info) : (State.terminate k i s).draws = s.draws + 1 := by rw [State.terminate]
@[simp] theorem terminate_sched (k : Cause) (i : Info) : (State.terminate k i s).sched = s.sched := by rw [State.terminate]
@[simp] theorem terminate_started (k : Cause) (i : Info) : (State.terminate k i s).started = s.started := by rw [State.terminate]

@[simp] theorem takeTurn_a : (State.takeTurn s).a = s.a := by rw [State.takeTurn]
@[simp] theorem takeTurn_b : (State.takeTurn s).b = s.b := by rw [State.takeTurn]
@[simp] theorem takeTurn_c : (State.takeTurn s).c = s.c := by rw [State.takeTurn]
@[simp] theorem takeTurn_d : (State.takeTurn s).d = s.d := by rw [State.takeTurn]
@[simp] theorem takeTurn_e : (State.takeTurn s).e = s.e := by rw [State.takeTurn]
@[simp] theorem takeTurn_h : (State.takeTurn s).h = s.h := by rw [State.takeTurn]
@[simp] theorem takeTurn_l : (State.takeTurn s).l = s.l := by rw [State.takeTurn]
@[simp] theorem takeTurn_flags : (State.takeTurn s).flags = s.flags := by rw [State.takeTurn]
@[simp] theorem takeTurn_pc : (State.takeTurn s).pc = s.pc := by rw [State.takeTurn]
@[simp] theorem takeTurn_sp : (State.takeTurn s).sp = s.sp := by rw [State.takeTurn]
@[simp] theorem takeTurn_inte : (State.takeTurn s).inte = s.inte := by rw [State.takeTurn]
@[simp] theorem takeTurn_exit : (State.takeTurn s).exit = s.exit := by rw [State.takeTurn]
@[simp] theorem takeTurn_cause : (State.takeTurn s).cause = s.cause := by rw [State.takeTurn]
@[simp] theorem takeTurn_info : (State.takeTurn s).info = s.info := by rw [State.takeTurn]
@[simp] theorem takeTurn_mem : (State.takeTurn s).mem = s.mem := by rw [State.takeTurn]
@[simp] theorem takeTurn_ports : (State.takeTurn s).ports = s.ports := by rw [State.takeTurn]
@[simp] theorem takeTurn_shHi : (State.takeTurn s).shHi = s.shHi := by rw [State.takeTurn]
@[simp] theorem takeTurn_shLo : (State.takeTurn s).shLo = s.shLo := by rw [State.takeTurn]
@[simp] theorem takeTurn_shOff : (State.takeTurn s).shOff = s.shOff := by rw [State.takeTurn]
@[simp] theorem takeTurn_diag : (State.takeTurn s).diag = s.diag := by rw [State.takeTurn]
@[simp] theorem takeTurn_ivsel : (State.takeTurn s).ivsel = s.ivsel := by rw [State.takeTurn]
@[simp] theorem takeTurn_diagEnabled : (State.takeTurn s).diagEnabled = s.diagEnabled := by rw [State.takeTurn]
@[simp] theorem takeTurn_draws : (State.takeTurn s).draws = s.draws := by rw [State.takeTurn]
@[simp] theorem takeTurn_sched : (State.takeTurn s).sched = s.sched.tail := by rw [State.takeTurn]
@[simp] theorem takeTurn_started : (State.takeTurn s).started = s.started := by rw [State.takeTurn]

@[simp] theorem beginStep_a : (State.beginStep s).a = s.a := by rw [State.beginStep]
@[simp] theorem beginStep_b : (State.beginStep s).b = s.b := by rw [State.beginStep]
@[simp] theorem beginStep_c : (State.beginStep s).c = s.c := by rw [State.beginStep]
@[simp] theorem beginStep_d : (State.beginStep s).d = s.d := by rw [State.beginStep]
@[simp] theorem beginStep_e : (State.beginStep s).e = s.e := by rw [State.beginStep]
@[simp] theorem beginStep_h : (State.beginStep s).h = s.h := by rw [State.beginStep]
@[simp] theorem beginStep_l : (State.beginStep s).l = s.l := by rw [State.beginStep]
@[simp] theorem beginStep_flags : (State.beginStep s).flags = s.flags := by rw [State.beginStep]
@[simp] theorem beginStep_pc : (State.beginStep s).pc = s.pc := by rw [State.beginStep]
@[simp] theorem beginStep_sp : (State.beginStep s).sp = s.sp := by rw [State.beginStep]
@[simp] theorem beginStep_inte : (State.beginStep s).inte = s.inte := by rw [State.beginStep]
@[simp] theorem beginStep_exit : (State.beginStep s).exit = s.exit := by rw [State.beginStep]
@[simp] theorem beginStep_cause : (State.beginStep s).cause = s.cause := by rw [State.beginStep]
@[simp] theorem beginStep_info : (State.beginStep s).info = s.info := by rw [State.beginStep]
@[simp] theorem beginStep_mem : (State.beginStep s).mem = s.mem := by rw [State.beginStep]
@[simp] theorem beginStep_ports : (State.beginStep s).ports = s.ports := by rw [State.beginStep]
@[simp] theorem beginStep_shHi : (State.beginStep s).shHi = s.shHi := by rw [State.beginStep]
@[simp] theorem beginStep_shLo : (State.beginStep s).shLo = s.shLo := by rw [State.beginStep]
@[simp] theorem beginStep_shOff : (State.beginStep s).shOff = s.shOff := by rw [State.beginStep]
@[simp] theorem beginStep_diag : (State.beginStep s).diag = s.diag := by rw [State.beginStep]
@[simp] theorem beginStep_ivsel : (State.beginStep s).ivsel = s.ivsel := by rw [State.beginStep]
@[simp] theorem beginStep_diagEnabled : (State.beginStep s).diagEnabled = s.diagEnabled := by rw [State.beginStep]
@[simp] theorem beginStep_draws : (State.beginStep s).draws = s.draws := by rw [State.beginStep]
@[simp] theorem beginStep_sched : (State.beginStep s).sched = s.sched.tail := by rw [State.beginStep]
@[simp] theorem beginStep_started : (State.beginStep s).started = true := by rw [State.beginStep]

@[simp] theorem writePort_a (i : Fin 8) (v : Byte) : (State.writePort i v s).a = s.a := by rw [State.writePort]
@[simp] theorem writePort_b (i : Fin 8) (v : Byte) : (State.writePort i v s).b = s.b := by rw [State.writePort]
@[simp] theorem writePort_c (i : Fin 8) (v : Byte) : (State.writePort i v s).c = s.c := by rw [State.writePort]
@[simp] theorem writePort_d (i : Fin 8) (v : Byte) : (State.writePort i v s).d = s.d := by rw [State.writePort]
@[simp] theorem writePort_e (i : Fin 8) (v : Byte) : (State.writePort i v s).e = s.e := by rw [State.writePort]
@[simp] theorem writePort_h (i : Fin 8) (v : Byte) : (State.writePort i v s).h = s.h := by rw [State.writePort]
@[simp] theorem writePort_l (i : Fin 8) (v : Byte) : (State.writePort i v s).l = s.l := by rw [State.writePort]
@[simp] theorem writePort_flags (i : Fin 8) (v : Byte) : (State.writePort i v s).flags = s.flags := by rw [State.writePort]
@[simp] theorem writePort_pc (i : Fin 8) (v : Byte) : (State.writePort i v s).pc = s.pc := by rw [State.writePort]
@[simp] theorem writePort_sp (i : Fin 8) (v : Byte) : (State.writePort i v s).sp = s.sp := by rw [State.writePort]
@[simp] theorem writePort_inte (i : Fin 8) (v : Byte) : (State.writePort i v s).inte = s.inte := by rw [State.writePort]
@[simp] theorem writePort_exit (i : Fin 8) (v : Byte) : (State.writePort i v s).exit = s.exit := by rw [State.writePort]
@[simp] theorem writePort_cause (i : Fin 8) (v : Byte) : (State.writePort i v s).cause = s.cause := by rw [State.writePort]
@[simp] theorem writePort_info (i : Fin 8) (v : Byte) : (State.writePort i v s).info = s.info := by rw [State.writePort]
@[simp] theorem writePort_mem (i : Fin 8) (v : Byte) : (State.writePort i v s).mem = s.mem := by rw [State.writePort]
@[simp] theorem writePort_ports (i : Fin 8) (v : Byte) : (State.writePort i v s).ports = s.ports.set i v := by rw [State.writePort]
@[simp] theorem writePort_shHi (i : Fin 8) (v : Byte) : (State.writePort i v s).shHi = s.shHi := by rw [State.writePort]
@[simp] theorem writePort_shLo (i : Fin 8) (v : Byte) : (State.writePort i v s).shLo = s.shLo := by rw [State.writePort]
@[simp] theorem writePort_shOff (i : Fin 8) (v : Byte) : (State.writePort i v s).shOff = s.shOff := by rw [State.writePort]
@[simp] theorem writePort_diag (i : Fin 8) (v : Byte) : (State.writePort i v s).diag = s.diag := by rw [State.writePort]
@[simp] theorem writePort_ivsel (i : Fin 8) (v : Byte) : (State.writePort i v s).ivsel = s.ivsel := by rw [State.writePort]
@[simp] theorem writePort_diagEnabled (i : Fin 8) (v : Byte) : (State.writePort i v s).diagEnabled = s.diagEnabled := by rw [State.writePort]
@[simp] theorem writePort_draws (i : Fin 8) (v : Byte) : (State.writePort i v s).draws = s.draws := by rw [State.writePort]
@[simp] theorem writePort_sched (i : Fin 8) (v : Byte) : (State.writePort i v s).sched = s.sched := by rw [State.writePort]
@[simp] theorem writePort_started (i : Fin 8) (v : Byte) : (State.writePort i v s).started = s.started := by rw [State.writePort]

@[simp] theorem setBc_a (v : Word) : (State.setBc v s).a = s.a := by rw [State.setBc]
@[simp] theorem setBc_b (v : Word) : (State.setBc v s).b = hiByte v := by rw [State.setBc]
@[simp] theorem setBc_c (v : Word) : (State.setBc v s).c = loByte v := by rw [State.setBc]
@[simp] theorem setBc_d (v : Word) : (State.setBc v s).d = s.d := by rw [State.setBc]
@[simp] theorem setBc_e (v : Word) : (State.setBc v s).e = s.e := by rw [State.setBc]
@[simp] theorem setBc_h (v : Word) : (State.setBc v s).h = s.h := by rw [State.setBc]
@[simp] theorem setBc_l (v : Word) : (State.setBc v s).l = s.l := by rw [State.setBc]
@[simp] theorem setBc_flags (v : Word) : (State.setBc v s).flags = s.flags := by rw [State.setBc]
@[simp] theorem setBc_pc (v : Word) : (State.setBc v s).pc = s.pc := by rw [State.setBc]
@[simp] theorem setBc_sp (v : Word) : (State.setBc v s).sp = s.sp := by rw [State.setBc]
@[simp] theorem setBc_inte (v : Word) : (State.setBc v s).inte = s.inte := by rw [State.setBc]
@[simp] theorem setBc_exit (v : Word) : (State.setBc v s).exit = s.exit := by rw [State.setBc]
@[simp] theorem setBc_cause (v : Word) : (State.setBc v s).cause = s.cause := by rw [State.setBc]
@[simp] theorem setBc_info (v : Word) : (State.setBc v s).info = s.info := by rw [State.setBc]
@[simp] theorem setBc_mem (v : Word) : (State.setBc v s).mem = s.mem := by rw [State.setBc]
@[simp] theorem setBc_ports (v : Word) : (State.setBc v s).ports = s.ports := by rw [State.setBc]
@[simp] theorem setBc_shHi (v : Word) : (State.setBc v s).shHi = s.shHi := by rw [State.setBc]
@[simp] theorem setBc_shLo (v : Word) : (State.setBc v s).shLo = s.shLo := by rw [State.setBc]
@[simp] theorem setBc_shOff (v : Word) : (State.setBc v s).shOff = s.shOff := by rw [State.setBc]
@[simp] theorem setBc_diag (v : Word) : (State.setBc v s).diag = s.diag := by rw [State.setBc]
@[simp] theorem setBc_ivsel (v : Word) : (State.setBc v s).ivsel = s.ivsel := by rw [State.setBc]
@[simp] theorem setBc_diagEnabled (v : Word) : (State.setBc v s).diagEnabled = s.diagEnabled := by rw [State.setBc]
@[simp] theorem setBc_draws (v : Word) : (State.setBc v s).draws = s.draws := by rw [State.setBc]
@[simp] theorem setBc_sched (v : Word) : (State.setBc v s).sched = s.sched := by rw [State.setBc]
@[simp] theorem setBc_started (v : Word) : (State.setBc v s).started = s.started := by rw [State.setBc]

@[simp] theorem setDe_a (v : Word) : (State.setDe v s).a = s.a := by rw [State.setDe]
@[simp] theorem setDe_b (v : Word) : (State.setDe v s).b = s.b := by rw [State.setDe]
@[simp] theorem setDe_c (v : Word) : (State.setDe v s).c = s.c := by rw [State.setDe]
@[simp] theorem setDe_d (v : Word) : (State.setDe v s).d = hiByte v := by rw [State.setDe]
@[simp] theorem setDe_e (v : Word) : (State.setDe v s).e = loByte v := by rw [State.setDe]
@[simp] theorem setDe_h (v : Word) : (State.setDe v s).h = s.h := by rw [State.setDe]
@[simp] theorem setDe_l (v : Word) : (State.setDe v s).l = s.l := by rw [State.setDe]
@[simp] theorem setDe_flags (v : Word) : (State.setDe v s).flags = s.flags := by rw [State.setDe]
@[simp] theorem setDe_pc (v : Word) : (State.setDe v s).pc = s.pc := by rw [State.setDe]
@[simp] theorem setDe_sp (v : Word) : (State.setDe v s).sp = s.sp := by rw [State.setDe]
@[simp] theorem setDe_inte (v : Word) : (State.setDe v s).inte = s.inte := by rw [State.setDe]
@[simp] theorem setDe_exit (v : Word) : (State.setDe v s).exit = s.exit := by rw [State.setDe]
@[simp] theorem setDe_cause (v : Word) : (State.setDe v s).cause = s.cause := by rw [State.setDe]
@[simp] theorem setDe_info (v : Word) : (State.setDe v s).info = s.info := by rw [State.setDe]
@[simp] theorem setDe_mem (v : Word) : (State.setDe v s).mem = s.mem := by rw [State.setDe]
@[simp] theorem setDe_ports (v : Word) : (State.setDe v s).ports = s.ports := by rw [State.setDe]
@[simp] theorem setDe_shHi (v : Word) : (State.setDe v s).shHi = s.shHi := by rw [State.setDe]
@[simp] theorem setDe_shLo (v : Word) : (State.setDe v s).shLo = s.shLo := by rw [State.setDe]
@[simp] theorem setDe_shOff (v : Word) : (State.setDe v s).shOff = s.shOff := by rw [State.setDe]
@[simp] theorem setDe_diag (v : Word) : (State.setDe v s).diag = s.diag := by rw [State.setDe]
@[simp] theorem setDe_ivsel (v : Word) : (State.setDe v s).ivsel = s.ivsel := by rw [State.setDe]
@[simp] theorem setDe_diagEnabled (v : Word) : (State.setDe v s).diagEnabled = s.diagEnabled := by rw [State.setDe]
@[simp] theorem setDe_draws (v : Word) : (State.setDe v s).draws = s.draws := by rw [State.setDe]
@[simp] theorem setDe_sched (v : Word) : (State.setDe v s).sched = s.sched := by rw [State.setDe]
@[simp] theorem setDe_started (v : Word) : (State.setDe v s).started = s.started := by rw [State.setDe]

@[simp] theorem setHl_a (v : Word) : (State.setHl v s).a = s.a := by rw [State.setHl]
@[simp] theorem setHl_b (v : Word) : (State.setHl v s).b = s.b := by rw [State.setHl]
@[simp] theorem setHl_c (v : Word) : (State.setHl v s).c = s.c := by rw [State.setHl]
@[simp] theorem setHl_d (v : Word) : (State.setHl v s).d = s.d := by rw [State.setHl]
@[simp] theorem setHl_e (v : Word) : (State.setHl v s).e = s.e := by rw [State.setHl]
@[simp] theorem setHl_h (v : Word) : (State.setHl v s).h = hiByte v := by rw [State.setHl]
@[simp] theorem setHl_l (v : Word) : (State.setHl v s).l = loByte v := by rw [State.setHl]
@[simp] theorem setHl_flags (v : Word) : (State.setHl v s).flags = s.flags := by rw [State.setHl]
@[simp] theorem setHl_pc (v : Word) : (State.setHl v s).pc = s.pc := by rw [State.setHl]
@[simp] theorem setHl_sp (v : Word) : (State.setHl v s).sp = s.sp := by rw [State.setHl]
@[simp] theorem setHl_inte (v : Word) : (State.setHl v s).inte = s.inte := by rw [State.setHl]
@[simp] theorem setHl_exit (v : Word) : (State.setHl v s).exit = s.exit := by rw [State.setHl]
@[simp] theorem setHl_cause (v : Word) : (State.setHl v s).cause = s.cause := by rw [State.setHl]
@[simp] theorem setHl_info (v : Word) : (State.setHl v s).info = s.info := by rw [State.setHl]
@[simp] theorem setHl_mem (v : Word) : (State.setHl v s).mem = s.mem := by rw [State.setHl]
@[simp] theorem setHl_ports (v : Word) : (State.setHl v s).ports = s.ports := by rw [State.setHl]
@[simp] theorem setHl_shHi (v : Word) : (State.setHl v s).shHi = s.shHi := by rw [State.setHl]
@[simp] theorem setHl_shLo (v : Word) : (State.setHl v s).shLo = s.shLo := by rw [State.setHl]
@[simp] theorem setHl_shOff (v : Word) : (State.setHl v s).shOff = s.shOff := by rw [State.setHl]
@[simp] theorem setHl_diag (v : Word) : (State.setHl v s).diag = s.diag := by rw [State.setHl]
@[simp] theorem setHl_ivsel (v : Word) : (State.setHl v s).ivsel = s.ivsel := by rw [State.setHl]
@[simp] theorem setHl_diagEnabled (v : Word) : (State.setHl v s).diagEnabled = s.diagEnabled := by rw [State.setHl]
@[simp] theorem setHl_draws (v : Word) : (State.setHl v s).draws = s.draws := by rw [State.setHl]
@[simp] theorem setHl_sched (v : Word) : (State.setHl v s).sched = s.sched := by rw [State.setHl]
@[simp] theorem setHl_started (v : Word) : (State.setHl v s).started = s.started := by rw [State.setHl]

@[simp] theorem set8_flags (r : R8) (v : Byte) : (State.set8 r v s).flags = s.flags := by cases r <;> simp only [State.set8, writeByte_flags]
@[simp] theorem set8_pc (r : R8) (v : Byte) : (State.set8 r v s).pc = s.pc := by cases r <;> simp only [State.set8, writeByte_pc]
@[simp] theorem set8_sp (r : R8) (v : Byte) : (State.set8 r v s).sp = s.sp := by cases r <;> simp only [State.set8, writeByte_sp]
@[simp] theorem set8_inte (r : R8) (v : Byte) : (State.set8 r v s).inte = s.inte := by cases r <;> simp only [State.set8, writeByte_inte]
@[simp] theorem set8_exit (r : R8) (v : Byte) : (State.set8 r v s).exit = s.exit := by cases r <;> simp only [State.set8, writeByte_exit]
@[simp] theorem set8_cause (r : R8) (v : Byte) : (State.set8 r v s).cause = s.cause := by cases r <;> simp only [State.set8, writeByte_cause]
@[simp] theorem set8_info (r : R8) (v : Byte) : (State.set8 r v s).info = s.info := by cases r <;> simp only [State.set8, writeByte_info]
@[simp] theorem set8_ports (r : R8) (v : Byte) : (State.set8 r v s).ports = s.ports := by cases r <;> simp only [State.set8, writeByte_ports]
@[simp] theorem set8_shHi (r : R8) (v : Byte) : (State.set8 r v s).shHi = s.shHi := by cases r <;> simp only [State.set8, writeByte_shHi]
@[simp] theorem set8_shLo (r : R8) (v : Byte) : (State.set8 r v s).shLo = s.shLo := by cases r <;> simp only [State.set8, writeByte_shLo]
@[simp] theorem set8_shOff (r : R8) (v : Byte) : (State.set8 r v s).shOff = s.shOff := by cases r <;> simp only [State.set8, writeByte_shOff]
@[simp] theorem set8_diag (r : R8) (v : Byte) : (State.set8 r v s).diag = s.diag := by cases r <;> simp only [State.set8, writeByte_diag]
@[simp] theorem set8_ivsel (r : R8) (v : Byte) : (State.set8 r v s).ivsel = s.ivsel := by cases r <;> simp only [State.set8, writeByte_ivsel]
@[simp] theorem set8_diagEnabled (r : R8) (v : Byte) : (State.set8 r v s).diagEnabled = s.diagEnabled := by cases r <;> simp only [State.set8, writeByte_diagEnabled]
@[simp] theorem set8_draws (r : R8) (v : Byte) : (State.set8 r v s).draws = s.draws := by cases r <;> simp only [State.set8, writeByte_draws]
@[simp] theorem set8_sched (r : R8) (v : Byte) : (State.set8 r v s).sched = s.sched := by cases r <;> simp only [State.set8, writeByte_sched]
@[simp] theorem set8_started (r : R8) (v : Byte) : (State.set8 r v s).started = s.started := by cases r <;> simp only [State.set8, writeByte_started]

@[simp] theorem set16_a (p : RP) (v : Word) : (State.set16 p v s).a = s.a := by cases p <;> simp only [State.set16, setSp_a, setBc_a, setDe_a, setHl_a]
@[simp] theorem set16_flags (p : RP) (v : Word) : (State.set16 p v s).flags = s.flags := by cases p <;> simp only [State.set16, setSp_flags, setBc_flags, setDe_flags, setHl_flags]
@[simp] theorem set16_pc (p : RP) (v : Word) : (State.set16 p v s).pc = s.pc := by cases p <;> simp only [State.set16, setSp_pc, setBc_pc, setDe_pc, setHl_pc]
@[simp] theorem set16_inte (p : RP) (v : Word) : (State.set16 p v s).inte = s.inte := by cases p <;> simp only [State.set16, setSp_inte, setBc_inte, setDe_inte, setHl_inte]
@[simp] theorem set16_exit (p : RP) (v : Word) : (State.set16 p v s).exit = s.exit := by cases p <;> simp only [State.set16, setSp_exit, setBc_exit, setDe_exit, setHl_exit]
@[simp] theorem set16_cause (p : RP) (v : Word) : (State.set16 p v s).cause = s.cause := by cases p <;> simp only [State.set16, setSp_cause, setBc_cause, setDe_cause, setHl_cause]
@[simp] theorem set16_info (p : RP) (v : Word) : (State.set16 p v s).info = s.info := by cases p <;> simp only [State.set16, setSp_info, setBc_info, setDe_info, setHl_info]
@[simp] theorem set16_mem (p : RP) (v : Word) : (State.set16 p v s).mem = s.mem := by cases p <;> simp only [State.set16, setSp_mem, setBc_mem, setDe_mem, setHl_mem]
@[simp] theorem set16_ports (p : RP) (v : Word) : (State.set16 p v s).ports = s.ports := by cases p <;> simp only [State.set16, setSp_ports, setBc_ports, setDe_ports, setHl_ports]
@[simp] theorem set16_shHi (p : RP) (v : Word) : (State.set16 p v s).shHi = s.shHi := by cases p <;> simp only [State.set16, setSp_shHi, setBc_shHi, setDe_shHi, setHl_shHi]
@[simp] theorem set16_shLo (p : RP) (v : Word) : (State.set16 p v s).shLo = s.shLo := by cases p <;> simp only [State.set16, setSp_shLo, setBc_shLo, setDe_shLo, setHl_shLo]
@[simp] theorem set16_shOff (p : RP) (v : Word) : (State.set16 p v s).shOff = s.shOff := by cases p <;> simp only [State.set16, setSp_shOff, setBc_shOff, setDe_shOff, setHl_shOff]
@[simp] theorem set16_diag (p : RP) (v : Word) : (State.set16 p v s).diag = s.diag := by cases p <;> simp only [State.set16, setSp_diag, setBc_diag, setDe_diag, setHl_diag]
@[simp] theorem set16_ivsel (p : RP) (v : Word) : (State.set16 p v s).ivsel = s.ivsel := by cases p <;> simp only [State.set16, setSp_ivsel, setBc_ivsel, setDe_ivsel, setHl_ivsel]
@[simp] theorem set16_diagEnabled (p : RP) (v : Word) : (State.set16 p v s).diagEnabled = s.diagEnabled := by cases p <;> simp only [State.set16, setSp_diagEnabled, setBc_diagEnabled, setDe_diagEnabled, setHl_diagEnabled]
@[simp] theorem set16_draws (p : RP) (v : Word) : (State.set16 p v s).draws = s.draws := by cases p <;> simp only [State.set16, setSp_draws, setBc_draws, setDe_draws, setHl_draws]
@[simp] theorem set16_sched (p : RP) (v : Word) : (State.set16 p v s).sched = s.sched := by cases p <;> simp only [State.set16, setSp_sched, setBc_sched, setDe_sched, setHl_sched]
@[simp] theorem set16_started (p : RP) (v : Word) : (State.set16 p v s).started = s.started := by cases p <;> simp only [State.set16, setSp_started, setBc_started, setDe_started, setHl_started]

@[simp] theorem drawAc_a : (State.drawAc s).a = s.a := by rw [State.drawAc]
@[simp] theorem drawAc_b : (State.drawAc s).b = s.b := by rw [State.drawAc]
@[simp] theorem drawAc_c : (State.drawAc s).c = s.c := by rw [State.drawAc]
@[simp] theorem drawAc_d : (State.drawAc s).d = s.d := by rw [State.drawAc]
@[simp] theorem drawAc_e : (State.drawAc s).e = s.e := by rw [State.drawAc]
@[simp] theorem drawAc_h : (State.drawAc s).h = s.h := by rw [State.drawAc]
@[simp] theorem drawAc_l : (State.drawAc s).l = s.l := by rw [State.drawAc]
@[simp] theorem drawAc_pc : (State.drawAc s).pc = s.pc := by rw [State.drawAc]
@[simp] theorem drawAc_sp : (State.drawAc s).sp = s.sp := by rw [State.drawAc]
@[simp] theorem drawAc_inte : (State.drawAc s).inte = s.inte := by rw [State.drawAc]
@[simp] theorem drawAc_exit : (State.drawAc s).exit = s.exit := by rw [State.drawAc]
@[simp] theorem drawAc_cause : (State.drawAc s).cause = s.cause := by rw [State.drawAc]
@[simp] theorem drawAc_info : (State.drawAc s).info = s.info := by rw [State.drawAc]
@[simp] theorem drawAc_mem : (State.drawAc s).mem = s.mem := by rw [State.drawAc]
@[simp] theorem drawAc_ports : (State.drawAc s).ports = s.ports := by rw [State.drawAc]
@[simp] theorem drawAc_shHi : (State.drawAc s).shHi = s.shHi := by rw [State.drawAc]
@[simp] theorem drawAc_shLo : (State.drawAc s).shLo = s.shLo := by rw [State.drawAc]
@[simp] theorem drawAc_shOff : (State.drawAc s).shOff = s.shOff := by rw [State.drawAc]
@[simp] theorem drawAc_diag : (State.drawAc s).diag = s.diag := by rw [State.drawAc]
@[simp] theorem drawAc_ivsel : (State.drawAc s).ivsel = s.ivsel := by rw [State.drawAc]
@[simp] theorem drawAc_diagEnabled : (State.drawAc s).diagEnabled = s.diagEnabled := by rw [State.drawAc]
@[simp] theorem drawAc_draws : (State.drawAc s).draws = s.draws + 1 := by rw [State.drawAc]
@[simp] theorem drawAc_sched : (State.drawAc s).sched = s.sched := by rw [State.drawAc]
@[simp] theorem drawAc_started : (State.drawAc s).started = s.started := by rw [State.drawAc]

@[simp] theorem alu_b (op : AluOp) (y : Byte) : (State.alu op y s).b = s.b := by simp only [State.alu, drawAc_b]
@[simp] theorem alu_c (op : AluOp) (y : Byte) : (State.alu op y s).c = s.c := by simp only [State.alu, drawAc_c]
@[simp] theorem alu_d (op : AluOp) (y : Byte) : (State.alu op y s).d = s.d := by simp only [State.alu, drawAc_d]
@[simp] theorem alu_e (op : AluOp) (y : Byte) : (State.alu op y s).e = s.e := by simp only [State.alu, drawAc_e]
@[simp] theorem alu_h (op : AluOp) (y : Byte) : (State.alu op y s).h = s.h := by simp only [State.alu, drawAc_h]
@[simp] theorem alu_l (op : AluOp) (y : Byte) : (State.alu op y s).l = s.l := by simp only [State.alu, drawAc_l]
@[simp] theorem alu_pc (op : AluOp) (y : Byte) : (State.alu op y s).pc = s.pc := by simp only [State.alu, drawAc_pc]
@[simp] theorem alu_sp (op : AluOp) (y : Byte) : (State.alu op y s).sp = s.sp := by simp only [State.alu, drawAc_sp]
@[simp] theorem alu_inte (op : AluOp) (y : Byte) : (State.alu op y s).inte = s.inte := by simp only [State.alu, drawAc_inte]
@[simp] theorem alu_exit (op : AluOp) (y : Byte) : (State.alu op y s).exit = s.exit := by simp only [State.alu, drawAc_exit]
@[simp] theorem alu_cause (op : AluOp) (y : Byte) : (State.alu op y s).cause = s.cause := by simp only [State.alu, drawAc_cause]
@[simp] theorem alu_info (op : AluOp) (y : Byte) : (State.alu op y s).info = s.info := by simp only [State.alu, drawAc_info]
@[simp] theorem alu_mem (op : AluOp) (y : Byte) : (State.alu op y s).mem = s.mem := by simp only [State.alu, drawAc_mem]
@[simp] theorem alu_ports (op : AluOp) (y : Byte) : (State.alu op y s).ports = s.ports := by simp only [State.alu, drawAc_ports]
@[simp] theorem alu_shHi (op : AluOp) (y : Byte) : (State.alu op y s).shHi = s.shHi := by simp only [State.alu, drawAc_shHi]
@[simp] theorem alu_shLo (op : AluOp) (y : Byte) : (State.alu op y s).shLo = s.shLo := by simp only [State.alu, drawAc_shLo]
@[simp] theorem alu_shOff (op : AluOp) (y : Byte) : (State.alu op y s).shOff = s.shOff := by simp only [State.alu, drawAc_shOff]
@[simp] theorem alu_diag (op : AluOp) (y : Byte) : (State.alu op y s).diag = s.diag := by simp only [State.alu, drawAc_diag]
@[simp] theorem alu_ivsel (op : AluOp) (y : Byte) : (State.alu op y s).ivsel = s.ivsel := by simp only [State.alu, drawAc_ivsel]
@[simp] theorem alu_diagEnabled (op : AluOp) (y : Byte) : (State.alu op y s).diagEnabled = s.diagEnabled := by simp only [State.alu, drawAc_diagEnabled]
@[simp] theorem alu_draws (op : AluOp) (y : Byte) : (State.alu op y s).draws = s.draws + 1 := by simp only [State.alu, drawAc_draws]
@[simp] theorem alu_sched (op : AluOp) (y : Byte) : (State.alu op y s).sched = s.sched := by simp only [State.alu, drawAc_sched]
@[simp] theorem alu_started (op : AluOp) (y : Byte) : (State.alu op y s).started = s.started := by simp only [State.alu, drawAc_started]

@[simp] theorem stepFlags_a (v : Byte) : (State.stepFlags v s).a = s.a := by simp only [State.stepFlags, drawAc_a]
@[simp] theorem stepFlags_b (v : Byte) : (State.stepFlags v s).b = s.b := by simp only [State.stepFlags, drawAc_b]
@[simp] theorem stepFlags_c (v : Byte) : (State.stepFlags v s).c = s.c := by simp only [State.stepFlags, drawAc_c]
@[simp] theorem stepFlags_d (v : Byte) : (State.stepFlags v s).d = s.d := by simp only [State.stepFlags, drawAc_d]
@[simp] theorem stepFlags_e (v : Byte) : (State.stepFlags v s).e = s.e := by simp only [State.stepFlags, drawAc_e]
@[simp] theorem stepFlags_h (v : Byte) : (State.stepFlags v s).h = s.h := by simp only [State.stepFlags, drawAc_h]
@[simp] theorem stepFlags_l (v : Byte) : (State.stepFlags v s).l = s.l := by simp only [State.stepFlags, drawAc_l]
@[simp] theorem stepFlags_pc (v : Byte) : (State.stepFlags v s).pc = s.pc := by simp only [State.stepFlags, drawAc_pc]
@[simp] theorem stepFlags_sp (v : Byte) : (State.stepFlags v s).sp = s.sp := by simp only [State.stepFlags, drawAc_sp]
@[simp] theorem stepFlags_inte (v : Byte) : (State.stepFlags v s).inte = s.inte := by simp only [State.stepFlags, drawAc_inte]
@[simp] theorem stepFlags_exit (v : Byte) : (State.stepFlags v s).exit = s.exit := by simp only [State.stepFlags, drawAc_exit]
@[simp] theorem stepFlags_cause (v : Byte) : (State.stepFlags v s).cause = s.cause := by simp only [State.stepFlags, drawAc_cause]
@[simp] theorem stepFlags_info (v : Byte) : (State.stepFlags v s).info = s.info := by simp only [State.stepFlags, drawAc_info]
@[simp] theorem stepFlags_mem (v : Byte) : (State.stepFlags v s).mem = s.mem := by simp only [State.stepFlags, drawAc_mem]
@[simp] theorem stepFlags_ports (v : Byte) : (State.stepFlags v s).ports = s.ports := by simp only [State.stepFlags, drawAc_ports]
@[simp] theorem stepFlags_shHi (v : Byte) : (State.stepFlags v s).shHi = s.shHi := by simp only [State.stepFlags, drawAc_shHi]
@[simp] theorem stepFlags_shLo (v : Byte) : (State.stepFlags v s).shLo = s.shLo := by simp only [State.stepFlags, drawAc_shLo]
@[simp] theorem stepFlags_shOff (v : Byte) : (State.stepFlags v s).shOff = s.shOff := by simp only [State.stepFlags, drawAc_shOff]
@[simp] theorem stepFlags_diag (v : Byte) : (State.stepFlags v s).diag = s.diag := by simp only [State.stepFlags, drawAc_diag]
@[simp] theorem stepFlags_ivsel (v : Byte) : (State.stepFlags v s).ivsel = s.ivsel := by simp only [State.stepFlags, drawAc_ivsel]
@[simp] theorem stepFlags_diagEnabled (v : Byte) : (State.stepFlags v s).diagEnabled = s.diagEnabled := by simp only [State.stepFlags, drawAc_diagEnabled]
@[simp] theorem stepFlags_draws (v : Byte) : (State.stepFlags v s).draws = s.draws + 1 := by simp only [State.stepFlags, drawAc_draws]
@[simp] theorem stepFlags_sched (v : Byte) : (State.stepFlags v s).sched = s.sched := by simp only [State.stepFlags, drawAc_sched]
@[simp] theorem stepFlags_started (v : Byte) : (State.stepFlags v s).started = s.started := by simp only [State.stepFlags, drawAc_started]

@[simp] theorem setCy_a (v : Bool) : (State.setCy v s).a = s.a := by rw [State.setCy]
@[simp] theorem setCy_b (v : Bool) : (State.setCy v s).b = s.b := by rw [State.setCy]
@[simp] theorem setCy_c (v : Bool) : (State.setCy v s).c = s.c := by rw [State.setCy]
@[simp] theorem setCy_d (v : Bool) : (State.setCy v s).d = s.d := by rw [State.setCy]
@[simp] theorem setCy_e (v : Bool) : (State.setCy v s).e = s.e := by rw [State.setCy]
@[simp] theorem setCy_h (v : Bool) : (State.setCy v s).h = s.h := by rw [State.setCy]
@[simp] theorem setCy_l (v : Bool) : (State.setCy v s).l = s.l := by rw [State.setCy]
@[simp] theorem setCy_pc (v : Bool) : (State.setCy v s).pc = s.pc := by rw [State.setCy]
@[simp] theorem setCy_sp (v : Bool) : (State.setCy v s).sp = s.sp := by rw [State.setCy]
@[simp] theorem setCy_inte (v : Bool) : (State.setCy v s).inte = s.inte := by rw [State.setCy]
@[simp] theorem setCy_exit (v : Bool) : (State.setCy v s).exit = s.exit := by rw [State.setCy]
@[simp] theorem setCy_cause (v : Bool) : (State.setCy v s).cause = s.cause := by rw [State.setCy]
@[simp] theorem setCy_info (v : Bool) : (State.setCy v s).info = s.info := by rw [State.setCy]
@[simp] theorem setCy_mem (v : Bool) : (State.setCy v s).mem = s.mem := by rw [State.setCy]
@[simp] theorem setCy_ports (v : Bool) : (State.setCy v s).ports = s.ports := by rw [State.setCy]
@[simp] theorem setCy_shHi (v : Bool) : (State.setCy v s).shHi = s.shHi := by rw [State.setCy]
@[simp] theorem setCy_shLo (v : Bool) : (State.setCy v s).shLo = s.shLo := by rw [State.setCy]
@[simp] theorem setCy_shOff (v : Bool) : (State.setCy v s).shOff = s.shOff := by rw [State.setCy]
@[simp] theorem setCy_diag (v : Bool) : (State.setCy v s).diag = s.diag := by rw [State.setCy]
@[simp] theorem setCy_ivsel (v : Bool) : (State.setCy v s).ivsel = s.ivsel := by rw [State.setCy]
@[simp] theorem setCy_diagEnabled (v : Bool) : (State.setCy v s).diagEnabled = s.diagEnabled := by rw [State.setCy]
@[simp] theorem setCy_draws (v : Bool) : (State.setCy v s).draws = s.draws := by rw [State.setCy]
@[simp] theorem setCy_sched (v : Bool) : (State.setCy v s).sched = s.sched := by rw [State.setCy]
@[simp] theorem setCy_started (v : Bool) : (State.setCy v s).started = s.started := by rw [State.setCy]

@[simp] theorem setStack_pc (p : StackPair) (v : Word) : (State.setStack p v s).pc = s.pc := by cases p <;> simp only [State.setStack, setBc_pc, setDe_pc, setHl_pc]
@[simp] theorem setStack_sp (p : StackPair) (v : Word) : (State.setStack p v s).sp = s.sp := by cases p <;> simp only [State.setStack, setBc_sp, setDe_sp, setHl_sp]
@[simp] theorem setStack_inte (p : StackPair) (v : Word) : (State.setStack p v s).inte = s.inte := by cases p <;> simp only [State.setStack, setBc_inte, setDe_inte, setHl_inte]
@[simp] theorem setStack_exit (p : StackPair) (v : Word) : (State.setStack p v s).exit = s.exit := by cases p <;> simp only [State.setStack, setBc_exit, setDe_exit, setHl_exit]
@[simp] theorem setStack_cause (p : StackPair) (v : Word) : (State.setStack p v s).cause = s.cause := by cases p <;> simp only [State.setStack, setBc_cause, setDe_cause, setHl_cause]
@[simp] theorem setStack_info (p : StackPair) (v : Word) : (State.setStack p v s).info = s.info := by cases p <;> simp only [State.setStack, setBc_info, setDe_info, setHl_info]
@[simp] theorem setStack_mem (p : StackPair) (v : Word) : (State.setStack p v s).mem = s.mem := by cases p <;> simp only [State.setStack, setBc_mem, setDe_mem, setHl_mem]
@[simp] theorem setStack_ports (p : StackPair) (v : Word) : (State.setStack p v s).ports = s.ports := by cases p <;> simp only [State.setStack, setBc_ports, setDe_ports, setHl_ports]
@[simp] theorem setStack_shHi (p : StackPair) (v : Word) : (State.setStack p v s).shHi = s.shHi := by cases p <;> simp only [State.setStack, setBc_shHi, setDe_shHi, setHl_shHi]
@[simp] theorem setStack_shLo (p : StackPair) (v : Word) : (State.setStack p v s).shLo = s.shLo := by cases p <;> simp only [State.setStack, setBc_shLo, setDe_shLo, setHl_shLo]
@[simp] theorem setStack_shOff (p : StackPair) (v : Word) : (State.setStack p v s).shOff = s.shOff := by cases p <;> simp only [State.setStack, setBc_shOff, setDe_shOff, setHl_shOff]
@[simp] theorem setStack_diag (p : StackPair) (v : Word) : (State.setStack p v s).diag = s.diag := by cases p <;> simp only [State.setStack, setBc_diag, setDe_diag, setHl_diag]
@[simp] theorem setStack_ivsel (p : StackPair) (v : Word) : (State.setStack p v s).ivsel = s.ivsel := by cases p <;> simp only [State.setStack, setBc_ivsel, setDe_ivsel, setHl_ivsel]
@[simp] theorem setStack_diagEnabled (p : StackPair) (v : Word) : (State.setStack p v s).diagEnabled = s.diagEnabled := by cases p <;> simp only [State.setStack, setBc_diagEnabled, setDe_diagEnabled, setHl_diagEnabled]
@[simp] theorem setStack_draws (p : StackPair) (v : Word) : (State.setStack p v s).draws = s.draws := by cases p <;> simp only [State.setStack, setBc_draws, setDe_draws, setHl_draws]
@[simp] theorem setStack_sched (p : StackPair) (v : Word) : (State.setStack p v s).sched = s.sched := by cases p <;> simp only [State.setStack, setBc_sched, setDe_sched, setHl_sched]
@[simp] theorem setStack_started (p : StackPair) (v : Word) : (State.setStack p v s).started = s.started := by cases p <;> simp only [State.setStack, setBc_started, setDe_started, setHl_started]

@[simp] theorem emit_a (vs : List Byte) : (State.emit vs s).a = s.a := by simp only [State.emit, advance_a]
@[simp] theorem emit_b (vs : List Byte) : (State.emit vs s).b = s.b := by simp only [State.emit, advance_b]
@[simp] theorem emit_c (vs : List Byte) : (State.emit vs s).c = s.c := by simp only [State.emit, advance_c]
@[simp] theorem emit_d (vs : List Byte) : (State.emit vs s).d = s.d := by simp only [State.emit, advance_d]
@[simp] theorem emit_e (vs : List Byte) : (State.emit vs s).e = s.e := by simp only [State.emit, advance_e]
@[simp] theorem emit_h (vs : List Byte) : (State.emit vs s).h = s.h := by simp only [State.emit, advance_h]
@[simp] theorem emit_l (vs : List Byte) : (State.emit vs s).l = s.l := by simp only [State.emit, advance_l]
@[simp] theorem emit_flags (vs : List Byte) : (State.emit vs s).flags = s.flags := by simp only [State.emit, advance_flags]
@[simp] theorem emit_pc (vs : List Byte) : (State.emit vs s).pc = s.pc + 3#16 := by simp only [State.emit, advance_pc]
@[simp] theorem emit_sp (vs : List Byte) : (State.emit vs s).sp = s.sp := by simp only [State.emit, advance_sp]
@[simp] theorem emit_inte (vs : List Byte) : (State.emit vs s).inte = s.inte := by simp only [State.emit, advance_inte]
@[simp] theorem emit_exit (vs : List Byte) : (State.emit vs s).exit = s.exit := by simp only [State.emit, advance_exit]
@[simp] theorem emit_cause (vs : List Byte) : (State.emit vs s).cause = s.cause := by simp only [State.emit, advance_cause]
@[simp] theorem emit_info (vs : List Byte) : (State.emit vs s).info = s.info := by simp only [State.emit, advance_info]
@[simp] theorem emit_mem (vs : List Byte) : (State.emit vs s).mem = s.mem := by simp only [State.emit, advance_mem]
@[simp] theorem emit_ports (vs : List Byte) : (State.emit vs s).ports = s.ports := by simp only [State.emit, advance_ports]
@[simp] theorem emit_shHi (vs : List Byte) : (State.emit vs s).shHi = s.shHi := by simp only [State.emit, advance_shHi]
@[simp] theorem emit_shLo (vs : List Byte) : (State.emit vs s).shLo = s.shLo := by simp only [State.emit, advance_shLo]
@[simp] theorem emit_shOff (vs : List Byte) : (State.emit vs s).shOff = s.shOff := by simp only [State.emit, advance_shOff]
@[simp] theorem emit_diag (vs : List Byte) : (State.emit vs s).diag = s.diag ++ vs := by simp only [State.emit, advance_diag]
@[simp] theorem emit_ivsel (vs : List Byte) : (State.emit vs s).ivsel = s.ivsel := by simp only [State.emit, advance_ivsel]
@[simp] theorem emit_diagEnabled (vs : List Byte) : (State.emit vs s).diagEnabled = s.diagEnabled := by simp only [State.emit, advance_diagEnabled]
@[simp] theorem emit_draws (vs : List Byte) : (State.emit vs s).draws = s.draws := by simp only [State.emit, advance_draws]
@[simp] theorem emit_sched (vs : List Byte) : (State.emit vs s).sched = s.sched := by simp only [State.emit, advance_sched]
@[simp] theorem emit_started (vs : List Byte) : (State.emit vs s).started = s.started := by simp only [State.emit, advance_started]

end Sys2Proof.Machine
end

