-- ==== Sys2Proof/Laws/Memory.lean ====
section
/-! SUPPORT. Reading after writing, and the canonical form of the memory: every memory operation keeps it. -/

namespace Sys2Proof.Machine

/-! ### Reading after one change of the list -/

theorem Memory.read_erase_same (m : Memory) (a : Nat) : (m.erase a).read a = Config.memInit := by
  induction m with
  | nil => rfl
  | cons p m ih =>
    obtain ⟨k, v⟩ := p
    by_cases h : k = a
    · simpa [Memory.erase, h] using ih
    · simpa [Memory.erase, Memory.read, h] using ih

theorem Memory.read_erase_other (m : Memory) {a x : Nat} (hx : x ≠ a) : (m.erase a).read x = m.read x := by
  induction m with
  | nil => rfl
  | cons p m ih =>
    obtain ⟨k, v⟩ := p
    by_cases h : k = a
    · subst h
      simpa [Memory.erase, Memory.read, Ne.symm hx] using ih
    · rw [Memory.erase, if_neg h, Memory.read, Memory.read, ih]

theorem Memory.read_erased_insert (m : Memory) (a : Nat) (v : Byte) : ((m.erase a).insert a v).read a = v := by
  induction m with
  | nil => simp [Memory.erase, Memory.insert, Memory.read]
  | cons p m ih =>
    obtain ⟨k, w⟩ := p
    by_cases h : k = a
    · simpa [Memory.erase, h] using ih
    · by_cases hlt : a < k
      · simp [Memory.erase, Memory.insert, Memory.read, h, hlt]
      · simpa [Memory.erase, Memory.insert, Memory.read, h, hlt] using ih

theorem Memory.read_insert_other (m : Memory) {a x : Nat} (v : Byte) (hx : x ≠ a) : (m.insert a v).read x = m.read x := by
  induction m with
  | nil => simp [Memory.insert, Memory.read, Ne.symm hx]
  | cons p m ih =>
    obtain ⟨k, w⟩ := p
    by_cases hlt : a < k
    · simp [Memory.insert, Memory.read, hlt, Ne.symm hx]
    · rw [Memory.insert, if_neg hlt, Memory.read, Memory.read, ih]

/-- A read after a write: the byte written at its address, the old byte everywhere else. -/
theorem Memory.read_write (m : Memory) (a x : Nat) (v : Byte) : (m.write a v).read x = if x = a then v else m.read x := by
  by_cases hv : v = Config.memInit
  · by_cases hx : x = a
    · subst hx; subst hv
      simp [Memory.write, Memory.read_erase_same]
    · simp [Memory.write, hv, hx, Memory.read_erase_other m hx]
  · by_cases hx : x = a
    · subst hx
      simp [Memory.write, hv, Memory.read_erased_insert]
    · simp [Memory.write, hv, hx, Memory.read_insert_other _ v hx, Memory.read_erase_other m hx]

theorem Memory.read_writeAll_outside (m : Memory) (base : Nat) (vs : List Byte) {x : Nat}
    (hx : x < base ∨ base + vs.length ≤ x) : (m.writeAll base vs).read x = m.read x := by
  induction vs generalizing m base with
  | nil => rfl
  | cons v vs ih =>
    have hne : x ≠ base := by simp at hx; omega
    rw [Memory.writeAll, ih _ _ (by simp at hx ⊢; omega), Memory.read_write, if_neg hne]

theorem Memory.read_writeAll_inside (m : Memory) (base : Nat) (vs : List Byte) {k : Nat} (hk : k < vs.length) :
    (m.writeAll base vs).read (base + k) = vs[k] := by
  induction vs generalizing m base k with
  | nil => simp at hk
  | cons v vs ih =>
    cases k with
    | zero => rw [Memory.writeAll, Memory.read_writeAll_outside _ _ _ (by omega), Memory.read_write]; simp
    | succ k =>
      have h := ih (m.write base v) (base + 1) (k := k) (by simpa using hk)
      rw [Memory.writeAll, show base + (k + 1) = base + 1 + k by omega, h]
      simp

/-! ### The canonical form -/

theorem Memory.wfFrom_mono {m : Memory} {lo lo' : Nat} (h : m.wfFrom lo = true) (hle : lo' ≤ lo) : m.wfFrom lo' = true := by
  cases m with
  | nil => rfl
  | cons p m =>
    obtain ⟨k, v⟩ := p
    simp only [Memory.wfFrom, Bool.and_eq_true, decide_eq_true_eq] at h ⊢
    exact ⟨⟨⟨by omega, h.1.1.2⟩, h.1.2⟩, h.2⟩

theorem Memory.wfFrom_erase {m : Memory} {lo : Nat} (a : Nat) (h : m.wfFrom lo = true) : (m.erase a).wfFrom lo = true := by
  induction m generalizing lo with
  | nil => rfl
  | cons p m ih =>
    obtain ⟨k, v⟩ := p
    simp only [Memory.wfFrom, Bool.and_eq_true, decide_eq_true_eq] at h
    by_cases hk : k = a
    · rw [Memory.erase, if_pos hk]
      exact Memory.wfFrom_mono (ih h.2) (by omega)
    · rw [Memory.erase, if_neg hk]
      simp only [Memory.wfFrom, Bool.and_eq_true, decide_eq_true_eq]
      exact ⟨h.1, ih h.2⟩

theorem Memory.wfFrom_insert {m : Memory} {lo a : Nat} {v : Byte} (h : (m.erase a).wfFrom lo = true) (hlo : lo ≤ a)
    (ha : a < 65536) (hv : v ≠ Config.memInit) : ((m.erase a).insert a v).wfFrom lo = true := by
  induction m generalizing lo with
  | nil => simp [Memory.erase, Memory.insert, Memory.wfFrom, hlo, ha, hv]
  | cons p m ih =>
    obtain ⟨k, w⟩ := p
    by_cases hk : k = a
    · rw [Memory.erase, if_pos hk] at h ⊢
      exact ih h hlo
    · rw [Memory.erase, if_neg hk] at h ⊢
      simp only [Memory.wfFrom, Bool.and_eq_true, decide_eq_true_eq] at h
      by_cases hlt : a < k
      · rw [Memory.insert, if_pos hlt]
        simp only [Memory.wfFrom, Bool.and_eq_true, decide_eq_true_eq]
        exact ⟨⟨⟨hlo, ha⟩, hv⟩, ⟨⟨by omega, h.1.1.2⟩, h.1.2⟩, h.2⟩
      · rw [Memory.insert, if_neg hlt]
        simp only [Memory.wfFrom, Bool.and_eq_true, decide_eq_true_eq]
        exact ⟨h.1, ih h.2 (by omega)⟩

/-- A write keeps the canonical form. -/
theorem Memory.wf_write {m : Memory} {a : Nat} (v : Byte) (h : m.wf = true) (ha : a < 65536) : (m.write a v).wf = true := by
  unfold Memory.write Memory.wf
  split
  · exact Memory.wfFrom_erase a h
  · exact Memory.wfFrom_insert (Memory.wfFrom_erase a h) (Nat.zero_le _) ha ‹_›

/-- Writing a run of bytes inside memory keeps the canonical form. -/
theorem Memory.wf_writeAll {m : Memory} {base : Nat} (vs : List Byte) (h : m.wf = true) (hb : base + vs.length ≤ 65536) :
    (m.writeAll base vs).wf = true := by
  induction vs generalizing m base with
  | nil => exact h
  | cons v vs ih =>
    simp only [List.length_cons] at hb
    exact ih (Memory.wf_write v h (by omega)) (by omega)

/-- The memory of the state after reset is in its canonical form. -/
theorem reset_mem_wf : State.reset.mem.wf = true := rfl

/-! ### The memory operations of a state -/

theorem readByte_writeByte (s : State) (a x : Word) (v : Byte) :
    (s.writeByte a v).readByte x = if x = a then v else s.readByte x := by
  simp only [State.readByte, writeByte_mem, Memory.read_write]
  by_cases h : x = a
  · simp [h]
  · have : x.toNat ≠ a.toNat := fun hc => h (BitVec.eq_of_toNat_eq hc)
    simp [h, this]

@[simp] theorem readByte_setSp (s : State) (v x : Word) : (s.setSp v).readByte x = s.readByte x := rfl

@[simp] theorem readByte_setPc (s : State) (v x : Word) : (s.setPc v).readByte x = s.readByte x := rfl

@[simp] theorem readByte_advance (s : State) (n x : Word) : (s.advance n).readByte x = s.readByte x := rfl

theorem readByte_writeWord (s : State) (a v x : Word) :
    (s.writeWord a v).readByte x = if x = a + 1#16 then hiByte v else if x = a then loByte v else s.readByte x := by
  simp only [State.writeWord, readByte_writeByte]

theorem readByte_push16 (s : State) (v x : Word) :
    (s.push16 v).readByte x
      = if x = s.sp - 1#16 - 1#16 then loByte v else if x = s.sp - 1#16 then hiByte v else s.readByte x := by
  simp only [State.push16, readByte_writeByte, readByte_setSp]

theorem wf_writeByte {s : State} (a : Word) (v : Byte) (h : s.mem.wf = true) : (s.writeByte a v).mem.wf = true :=
  Memory.wf_write v h a.isLt

theorem wf_writeWord {s : State} (a v : Word) (h : s.mem.wf = true) : (s.writeWord a v).mem.wf = true :=
  wf_writeByte _ _ (wf_writeByte _ _ h)

theorem wf_push16 {s : State} (v : Word) (h : s.mem.wf = true) : (s.push16 v).mem.wf = true :=
  Memory.wf_write _ (Memory.wf_write _ h (BitVec.isLt _)) (BitVec.isLt _)

theorem wf_set8 {s : State} (r : R8) (v : Byte) (h : s.mem.wf = true) : (s.set8 r v).mem.wf = true := by
  cases r
  case m => exact wf_writeByte _ _ h
  all_goals exact h

end Sys2Proof.Machine
end

