-- ==== Sys2Proof/Laws/Ops.lean ====
section
/-! SUPPORT. What each shared operation can do, said once: later proofs cite these and do not unfold the operations. -/

namespace Sys2Proof.Machine

/-! ### Halves and wholes -/

theorem toNat_hiByte (v : Word) : (hiByte v).toNat = v.toNat / 256 := by
  have := v.isLt
  simp only [hiByte, BitVec.extractLsb'_toNat, Nat.shiftRight_eq_div_pow]
  omega

theorem toNat_loByte (v : Word) : (loByte v).toNat = v.toNat % 256 := by
  simp [loByte, BitVec.extractLsb'_toNat]

theorem toNat_mkWord (x y : Byte) : (mkWord x y).toNat = 256 * x.toNat + y.toNat := by
  have := y.isLt
  rw [mkWord, BitVec.toNat_append, ← Nat.shiftLeft_add_eq_or_of_lt this, Nat.shiftLeft_eq]
  omega

@[simp] theorem hiByte_mkWord (x y : Byte) : hiByte (mkWord x y) = x := by
  have := y.isLt
  apply BitVec.eq_of_toNat_eq
  rw [toNat_hiByte, toNat_mkWord]
  omega

@[simp] theorem loByte_mkWord (x y : Byte) : loByte (mkWord x y) = y := by
  have := y.isLt
  apply BitVec.eq_of_toNat_eq
  rw [toNat_loByte, toNat_mkWord]
  omega

@[simp] theorem mkWord_halves (v : Word) : mkWord (hiByte v) (loByte v) = v := by
  apply BitVec.eq_of_toNat_eq
  rw [toNat_mkWord, toNat_hiByte, toNat_loByte]
  omega

/-! ### Operands -/

@[simp] theorem get8_set8 (s : State) {r : R8} (v : Byte) (h : r ≠ .m) : (s.set8 r v).get8 r = v := by
  cases r <;> first | exact absurd rfl h | rfl

theorem get8_set8_other (s : State) {r q : R8} (v : Byte) (hq : q ≠ .m) (h : q ≠ r) : (s.set8 r v).get8 q = s.get8 q := by
  cases r <;> cases q <;> first | exact absurd rfl h | exact absurd rfl hq | rfl

theorem readByte_set8 (s : State) {r : R8} (v : Byte) (x : Word) (h : r ≠ .m) : (s.set8 r v).readByte x = s.readByte x := by
  cases r <;> first | exact absurd rfl h | rfl

@[simp] theorem get16_set16 (s : State) (p : RP) (v : Word) : (s.set16 p v).get16 p = v := by
  cases p <;> first | exact mkWord_halves v | rfl

theorem get16_set16_other (s : State) {p q : RP} (v : Word) (h : q ≠ p) : (s.set16 p v).get16 q = s.get16 q := by
  cases p <;> cases q <;> first | exact absurd rfl h | rfl

/-! ### The stack and calls -/

/-- Everything a push does (rule R58). -/
theorem push16_pushed (s : State) (v : Word) : s.pushed (s.push16 v) v := by
  have h2 : s.sp - 1#16 - 1#16 = s.sp - 2#16 := by bv_omega
  have hne : s.sp - 1#16 ≠ s.sp - 2#16 := by bv_omega
  refine ⟨by rw [push16_sp, h2], fun x => ?_, by ext <;> simp⟩
  rw [readByte_push16, h2]
  by_cases hx : x = s.sp - 1#16
  · simp only [hx, hne, if_true, if_false]
  · simp only [hx, if_false]

/-- Everything a call of any kind does (rules R184, R185, R188). -/
theorem callTo_pushed (s : State) (ret target : Word) : s.pushed (s.callTo ret target) ret := by
  obtain ⟨h1, h2, h3⟩ := push16_pushed s ret
  refine ⟨h1, fun x => ?_, by ext <;> simp⟩
  rw [State.callTo, readByte_setPc, h2]

/-- What a pop after a push reads. -/
theorem top_push16 (s : State) (v : Word) : (s.push16 v).top = v := by
  have e : s.sp - 1#16 - 1#16 + 1#16 = s.sp - 1#16 := by bv_omega
  have hne : s.sp - 1#16 ≠ s.sp - 1#16 - 1#16 := by bv_omega
  simp only [State.top, State.readWord, push16_sp, readByte_push16, e, hne, if_true, if_false, mkWord_halves]

/-! ### Termination and jumps -/

/-- Everything a termination does (rules R272, R273). -/
theorem terminate_endedBy (s : State) (cause : Cause) (info : Info) : s.endedBy (s.terminate cause info) cause info :=
  ⟨by simp, by simp, by simp, by ext <;> simp⟩

/-- Everything a taken jump can do (rules R182, R189). -/
theorem jumpTo_cases (s : State) (kind : JumpKind) (op : Byte) (w : Word) :
    (kind.resetJump = true ∧ w = 0x0000#16 ∧ s.jumpTo kind op w = s.terminate .resetJump (.opcode op)) ∨
    ((kind.resetJump = false ∨ w ≠ 0x0000#16) ∧ s.jumpTo kind op w = s.setPc w) := by
  unfold State.jumpTo
  cases kind <;> by_cases h : w = 0x0000#16 <;> simp [JumpKind.resetJump, h]

/-- Everything a conditional jump can do (rule R183). -/
theorem jumpIf_cases (s : State) (cc : Cond) (op : Byte) (w : Word) :
    (condHolds cc s.flags = true ∧ w = 0x0000#16 ∧ s.jumpIf cc op w = s.terminate .resetJump (.opcode op)) ∨
    (condHolds cc s.flags = true ∧ w ≠ 0x0000#16 ∧ s.jumpIf cc op w = s.setPc w) ∨
    (condHolds cc s.flags = false ∧ s.jumpIf cc op w = s.advance 3#16) := by
  unfold State.jumpIf
  cases condHolds cc s.flags <;> rcases jumpTo_cases s .jcc op w with ⟨_, h, e⟩ | ⟨h, e⟩ <;>
    simp_all [JumpKind.resetJump]

/-- Everything a conditional call can do (rule R185). -/
theorem callIf_cases (s : State) (cc : Cond) (w : Word) :
    (condHolds cc s.flags = true ∧ s.callIf cc w = s.callTo (s.pc + 3#16) w) ∨
    (condHolds cc s.flags = false ∧ s.callIf cc w = s.advance 3#16) := by
  unfold State.callIf
  cases condHolds cc s.flags <;> simp

/-- Everything a conditional return can do (rule R187). -/
theorem retIf_cases (s : State) (cc : Cond) :
    (condHolds cc s.flags = true ∧ s.retIf cc = s.popPc) ∨ (condHolds cc s.flags = false ∧ s.retIf cc = s.advance 1#16) := by
  unfold State.retIf
  cases condHolds cc s.flags <;> simp

/-! ### The arithmetic and flag engine -/

theorem parity_eq : ∀ v : Byte, parity v = decide (onesOf v % 2 = 0) := by decide +kernel

theorem signBit_eq : ∀ v : Byte, v.getLsbD 7 = decide (128 ≤ v.toNat) := by decide +kernel

/-- `ZSP(v)` in arithmetic (rules R131, R132). -/
theorem zspFlags_zspOf (v : Byte) (f : Flags) : zspOf (zspFlags v f) v.toNat := by
  refine ⟨?_, ?_, ?_⟩
  · have : v = 0#8 ↔ v.toNat = 0 := by bv_omega
    simp [zspFlags, this]
  · simp only [zspFlags, signBit_eq]
  · simp [zspFlags, parity_eq]

/-- Everything an ALU operation and the advance after it do (rules R130 to R136), for any operation but compare. -/
theorem alu_outcome (s : State) {op : AluOp} (y : Byte) (len : Word) (h : aluKeepsA op = false) :
    s.aluOutcome ((s.alu op y).advance len) (loByte (aluWide op s.a y s.flags.cy)).toNat
      (aluCarry op (aluWide op s.a y s.flags.cy)) len := by
  refine ⟨by simp [State.alu, State.drawAc, h], by simp [State.alu, State.drawAc], ?_, by ext <;> simp⟩
  simpa [zspOf, State.alu, State.drawAc] using zspFlags_zspOf (loByte (aluWide op s.a y s.flags.cy)) s.flags

/-- Everything the flag half of an increment or decrement does (rules R154, R155). -/
theorem stepFlags_outcome (s : State) (v : Byte) :
    (s.stepFlags v).flags.cy = s.flags.cy ∧ zspOf (s.stepFlags v).flags v.toNat ∧
      s.stepFlags v = { s with flags := (s.stepFlags v).flags, draws := s.draws + 1 } :=
  ⟨by simp [State.stepFlags, State.drawAc, zspFlags], by simpa [zspOf, State.stepFlags, State.drawAc] using zspFlags_zspOf v s.flags,
    by ext <;> simp⟩

/-! ### The interrupt controller and whose turn it is -/

/-- Everything `interrupt` can do (rules R281, R282, R283). -/
theorem interrupt_cases (s : State) :
    ((s.exit = true ∨ s.inte = false) ∧ s.interrupt = s) ∨
    (s.exit = false ∧ s.inte = true ∧ s.interrupt = s.enterInterrupt) := by
  unfold State.interrupt
  cases s.exit <;> cases s.inte <;> simp

/-- Everything a step can do: a host action, no step after the end, or the fetched instruction (rules R11, R13, R83). -/
theorem step_cases (s : State) :
    (s.coresTurn = true ∧ s.exit = true ∧ step s = .fault .runOver) ∨
    (s.coresTurn = true ∧ s.exit = false ∧ step s = exec s.fetch s.beginStep) ∨
    (∃ rest, s.sched = .interrupt :: rest ∧ step s = .next s.takeTurn.interrupt) ∨
    (∃ i v rest, s.sched = .writePort i v :: rest ∧ step s = .next (s.takeTurn.writePort i v)) ∨
    (∃ base bytes rest, s.sched = .load base bytes :: rest ∧ step s = s.takeTurn.load base bytes) := by
  have hf : s.beginStep.fetch = s.fetch := by
    simp only [State.fetch, State.readByte, beginStep_pc, beginStep_mem]
  unfold step State.nextTurn State.coreTurn State.coresTurn
  cases hs : s.sched with
  | nil => cases s.exit <;> simp [hf]
  | cons turn rest =>
    cases turn with
    | core => cases s.exit <;> simp [hf]
    | interrupt => exact .inr (.inr (.inl ⟨rest, rfl, rfl⟩))
    | writePort i v => exact .inr (.inr (.inr (.inl ⟨i, v, rest, rfl, rfl⟩)))
    | load base bytes => exact .inr (.inr (.inr (.inr ⟨base, bytes, rest, rfl, rfl⟩)))

/-- Everything `load` can do (rule R312). -/
theorem load_cases (s : State) (base : Nat) (bytes : List Byte) :
    (s.started = true ∧ s.load base bytes = .refused .loadAfterFirstStep) ∨
    (s.started = false ∧ 65536 < base + bytes.length ∧ s.load base bytes = .refused .loadOutsideMemory) ∨
    (s.started = false ∧ base + bytes.length ≤ 65536 ∧
      s.load base bytes = .next { s with mem := Memory.writeAll s.mem base bytes }) := by
  unfold State.load
  cases s.started
  · by_cases h : base + bytes.length ≤ 65536
    · simp [h]
    · simp [h]; omega
  · simp

/-! ### Ports and the diagnostic console -/

/-- Everything IN can do (rules R244, R245, R253). -/
theorem inFrom_cases (s : State) (p : Byte) :
    (p = 0#8 ∧ s.inFrom p = s.input Config.in0Const) ∨ (p = 1#8 ∧ s.inFrom p = s.input s.ports[1]) ∨
    (p = 2#8 ∧ s.inFrom p = s.input s.ports[2]) ∨ (p = 3#8 ∧ s.inFrom p = s.input s.shiftResult) ∨
    (4 ≤ p.toNat ∧ s.inFrom p = s.unmappedPort .input p) := by
  unfold State.inFrom
  by_cases h0 : p = 0#8
  · simp [h0]
  by_cases h1 : p = 1#8
  · simp [h1]
  by_cases h2 : p = 2#8
  · simp [h2]
  by_cases h3 : p = 3#8
  · simp [h3]
  exact .inr (.inr (.inr (.inr ⟨by bv_omega, by simp [h0, h1, h2, h3]⟩)))

/-- Everything OUT can do (rules R244, R246, R247, R249, R253). -/
theorem outTo_cases (s : State) (p : Byte) :
    (p = 2#8 ∧ s.outTo p = State.advance 2#16 { s with shOff := s.a.extractLsb' 0 3 }) ∨
    (p = 4#8 ∧ s.outTo p = State.advance 2#16 { s with shLo := s.shHi, shHi := s.a }) ∨
    ((p = 3#8 ∨ p = 5#8 ∨ p = 6#8) ∧ s.outTo p = s.advance 2#16) ∨
    ((p.toNat < 2 ∨ 6 < p.toNat) ∧ s.outTo p = s.unmappedPort .output p) := by
  unfold State.outTo
  by_cases h2 : p = 2#8
  · simp [h2]
  by_cases h3 : p = 3#8
  · simp [h3]
  by_cases h4 : p = 4#8
  · simp [h4]
  by_cases h5 : p = 5#8
  · simp [h5]
  by_cases h6 : p = 6#8
  · simp [h6]
  exact .inr (.inr (.inr ⟨by bv_omega, by simp [h2, h3, h4, h5, h6]⟩))

/-- The string walk with enough fuel: the bytes before the first sentinel at distance `n` (rule R257). -/
theorem stringFrom_found (s : State) (n : Nat) : ∀ (fuel : Nat) (addr : Word), n < fuel →
    s.readByte (addr + BitVec.ofNat 16 n) = Config.diagSentinel →
    (∀ k, k < n → s.readByte (addr + BitVec.ofNat 16 k) ≠ Config.diagSentinel) →
    State.stringFrom fuel addr s = some ((List.range n).map (fun k => s.readByte (addr + BitVec.ofNat 16 k))) := by
  induction n with
  | zero =>
    intro fuel addr hf h _
    cases fuel with
    | zero => omega
    | succ fuel =>
      rw [BitVec.add_zero] at h
      rw [State.stringFrom, if_pos h]
      rfl
  | succ n ih =>
    intro fuel addr hf h hk
    have shift : ∀ k : Nat, addr + BitVec.ofNat 16 (k + 1) = addr + 1#16 + BitVec.ofNat 16 k := by
      intro k; rw [BitVec.add_assoc]; congr 1; rw [Nat.add_comm, BitVec.ofNat_add]
    cases fuel with
    | zero => omega
    | succ fuel =>
      have h0 : s.readByte addr ≠ Config.diagSentinel := by simpa using hk 0 (by omega)
      have rest := ih fuel (addr + 1#16) (by omega) (by rw [← shift]; exact h)
        (fun k hlt => by rw [← shift]; exact hk (k + 1) (by omega))
      rw [State.stringFrom, if_neg h0, rest, List.range_succ_eq_map, List.map_cons, List.map_map]
      refine congrArg some (congr (congrArg List.cons (by rw [BitVec.add_zero])) (List.map_congr_left fun k _ => ?_))
      exact congrArg s.readByte (shift k).symm

/-- The string walk finds nothing where no byte is the sentinel (rule R257). -/
theorem stringFrom_none (s : State) (h : ∀ x, s.readByte x ≠ Config.diagSentinel) (fuel : Nat) (addr : Word) :
    State.stringFrom fuel addr s = none := by
  induction fuel generalizing addr with
  | zero => rfl
  | succ fuel ih => simp [State.stringFrom, h addr, ih]

/-- The string walk over all 65,536 bytes gives nothing only where no byte is the sentinel (rule R257). -/
theorem stringFrom_none_iff (s : State) (fuel : Nat) (addr : Word) :
    State.stringFrom fuel addr s = none ↔ ∀ k, k < fuel → s.readByte (addr + BitVec.ofNat 16 k) ≠ Config.diagSentinel := by
  induction fuel generalizing addr with
  | zero => simp [State.stringFrom]
  | succ fuel ih =>
    have shift : ∀ k : Nat, addr + BitVec.ofNat 16 (k + 1) = addr + 1#16 + BitVec.ofNat 16 k := by
      intro k; rw [BitVec.add_assoc]; congr 1; rw [Nat.add_comm, BitVec.ofNat_add]
    rw [State.stringFrom]
    by_cases h0 : s.readByte addr = Config.diagSentinel
    · simp only [h0, if_true, reduceCtorEq, false_iff]
      intro hk
      exact hk 0 (by omega) (by simpa using h0)
    · simp only [h0, if_false]
      cases hs : State.stringFrom fuel (addr + 1#16) s with
      | some vs =>
        have := (not_congr (ih (addr + 1#16))).mp (by simp [hs])
        simp only [reduceCtorEq, false_iff]
        intro hk
        exact this (fun k hlt => by rw [← shift]; exact hk (k + 1) (by omega))
      | none =>
        simp only [true_iff]
        intro k hlt
        cases k with
        | zero => simpa using h0
        | succ k => rw [shift]; exact (ih (addr + 1#16)).mp hs k (by omega)

/-- Everything the intercept can do (rules R256 to R259, R257). -/
theorem intercept_cases (s : State) :
    (∃ vs, s.intercept = .next (s.emit vs)) ∨
    (s.c = 0x09#8 ∧ (∀ x, s.readByte x ≠ 0x24#8) ∧ s.intercept = .refused .diagStringUnterminated) := by
  unfold State.intercept
  split
  · rename_i h
    cases hs : s.stringFrom 65536 (s.get16 Config.diagStrPair) with
    | some vs => exact .inl ⟨vs, rfl⟩
    | none =>
      refine .inr ⟨h, fun x => ?_, rfl⟩
      have hk := (stringFrom_none_iff s _ _).mp hs (x - s.de).toNat (by bv_omega)
      have e : s.de + BitVec.ofNat 16 (x - s.de).toNat = x := by
        simp only [BitVec.ofNat_toNat, BitVec.setWidth_eq]; bv_omega
      rw [show s.get16 Config.diagStrPair = s.de from rfl, e] at hk
      exact hk
  · split <;> exact .inl ⟨_, rfl⟩

end Sys2Proof.Machine
end

