-- ==== Sys2Proof/Laws/Families.lean ====
section
/-! SUPPORT. The instructions by family: one elimination over the families of the decode map, and what `exec` is for each. A proof
about all instructions has one case per family instead of one per constructor. -/

namespace Sys2Proof

open Machine

/-- What holds of every family of instructions holds of every instruction. -/
theorem Instr.byFamily {P : Instr → Prop}
    (mov : ∀ dst src, P (.ofMov dst src)) (alu : ∀ op r, P (.ofAlu op r))
    (aluImm : ∀ op imm, P (.ofAluImm op imm))
    (mvi : ∀ dst imm, P (.ofMvi dst imm)) (inr : ∀ dst, P (.ofInr dst)) (dcr : ∀ dst, P (.ofDcr dst)) (lxi : ∀ p w, P (.ofLxi p w))
    (inx : ∀ p, P (.ofInx p)) (dcx : ∀ p, P (.ofDcx p)) (dad : ∀ p, P (.ofDad p)) (push : ∀ p, P (.ofPush p))
    (pop : ∀ p, P (.ofPop p)) (jcc : ∀ cc w, P (.ofJcc cc w)) (ccc : ∀ cc w, P (.ofCcc cc w)) (rcc : ∀ cc, P (.ofRcc cc))
    (rst : ∀ n : Fin 8, P (.ofRst n.val))
    (nop : P .nop) (staxB : P .staxB) (rlc : P .rlc) (ldaxB : P .ldaxB) (rrc : P .rrc) (staxD : P .staxD) (ral : P .ral)
    (ldaxD : P .ldaxD) (rar : P .rar) (shld : ∀ v, P (.shld v)) (daa : P .daa) (lhld : ∀ v, P (.lhld v)) (cma : P .cma)
    (sta : ∀ v, P (.sta v)) (stc : P .stc) (lda : ∀ v, P (.lda v)) (cmc : P .cmc) (hlt : P .hlt) (jmp : ∀ v, P (.jmp v))
    (ret : P .ret) (call : ∀ v, P (.call v)) (outPort : ∀ v, P (.outPort v)) (inPort : ∀ v, P (.inPort v)) (xthl : P .xthl)
    (pchl : P .pchl) (xchg : P .xchg) (di : P .di) (sphl : P .sphl) (ei : P .ei) (undefinedOp : ∀ v, P (.undefinedOp v))
    (i : Instr) : P i :=
  match i with
    | .nop => nop | .lxiB v => lxi .bc v | .staxB => staxB | .inxB => inx .bc | .inrB => inr .b | .dcrB => dcr .b
    | .mviB v => mvi .b v | .rlc => rlc | .dadB => dad .bc | .ldaxB => ldaxB | .dcxB => dcx .bc | .inrC => inr .c
    | .dcrC => dcr .c | .mviC v => mvi .c v | .rrc => rrc | .lxiD v => lxi .de v | .staxD => staxD | .inxD => inx .de
    | .inrD => inr .d | .dcrD => dcr .d | .mviD v => mvi .d v | .ral => ral | .dadD => dad .de | .ldaxD => ldaxD
    | .dcxD => dcx .de | .inrE => inr .e | .dcrE => dcr .e | .mviE v => mvi .e v | .rar => rar | .lxiH v => lxi .hl v
    | .shld v => shld v | .inxH => inx .hl | .inrH => inr .h | .dcrH => dcr .h | .mviH v => mvi .h v | .daa => daa
    | .dadH => dad .hl | .lhld v => lhld v | .dcxH => dcx .hl | .inrL => inr .l | .dcrL => dcr .l | .mviL v => mvi .l v
    | .cma => cma | .lxiSp v => lxi .sp v | .sta v => sta v | .inxSp => inx .sp | .inrM => inr .m | .dcrM => dcr .m
    | .mviM v => mvi .m v | .stc => stc | .dadSp => dad .sp | .lda v => lda v | .dcxSp => dcx .sp | .inrA => inr .a
    | .dcrA => dcr .a | .mviA v => mvi .a v | .cmc => cmc | .movBB => mov .b .b | .movBC => mov .b .c | .movBD => mov .b .d
    | .movBE => mov .b .e | .movBH => mov .b .h | .movBL => mov .b .l | .movBM => mov .b .m | .movBA => mov .b .a
    | .movCB => mov .c .b | .movCC => mov .c .c | .movCD => mov .c .d | .movCE => mov .c .e | .movCH => mov .c .h
    | .movCL => mov .c .l | .movCM => mov .c .m | .movCA => mov .c .a | .movDB => mov .d .b | .movDC => mov .d .c
    | .movDD => mov .d .d | .movDE => mov .d .e | .movDH => mov .d .h | .movDL => mov .d .l | .movDM => mov .d .m
    | .movDA => mov .d .a | .movEB => mov .e .b | .movEC => mov .e .c | .movED => mov .e .d | .movEE => mov .e .e
    | .movEH => mov .e .h | .movEL => mov .e .l | .movEM => mov .e .m | .movEA => mov .e .a | .movHB => mov .h .b
    | .movHC => mov .h .c | .movHD => mov .h .d | .movHE => mov .h .e | .movHH => mov .h .h | .movHL => mov .h .l
    | .movHM => mov .h .m | .movHA => mov .h .a | .movLB => mov .l .b | .movLC => mov .l .c | .movLD => mov .l .d
    | .movLE => mov .l .e | .movLH => mov .l .h | .movLL => mov .l .l | .movLM => mov .l .m | .movLA => mov .l .a
    | .movMB => mov .m .b | .movMC => mov .m .c | .movMD => mov .m .d | .movME => mov .m .e | .movMH => mov .m .h
    | .movML => mov .m .l | .hlt => hlt | .movMA => mov .m .a | .movAB => mov .a .b | .movAC => mov .a .c
    | .movAD => mov .a .d | .movAE => mov .a .e | .movAH => mov .a .h | .movAL => mov .a .l | .movAM => mov .a .m
    | .movAA => mov .a .a | .addB => alu .add .b | .addC => alu .add .c | .addD => alu .add .d | .addE => alu .add .e
    | .addH => alu .add .h | .addL => alu .add .l | .addM => alu .add .m | .addA => alu .add .a | .adcB => alu .adc .b
    | .adcC => alu .adc .c | .adcD => alu .adc .d | .adcE => alu .adc .e | .adcH => alu .adc .h | .adcL => alu .adc .l
    | .adcM => alu .adc .m | .adcA => alu .adc .a | .subB => alu .sub .b | .subC => alu .sub .c | .subD => alu .sub .d
    | .subE => alu .sub .e | .subH => alu .sub .h | .subL => alu .sub .l | .subM => alu .sub .m | .subA => alu .sub .a
    | .sbbB => alu .sbb .b | .sbbC => alu .sbb .c | .sbbD => alu .sbb .d | .sbbE => alu .sbb .e | .sbbH => alu .sbb .h
    | .sbbL => alu .sbb .l | .sbbM => alu .sbb .m | .sbbA => alu .sbb .a | .anaB => alu .ana .b | .anaC => alu .ana .c
    | .anaD => alu .ana .d | .anaE => alu .ana .e | .anaH => alu .ana .h | .anaL => alu .ana .l | .anaM => alu .ana .m
    | .anaA => alu .ana .a | .xraB => alu .xra .b | .xraC => alu .xra .c | .xraD => alu .xra .d | .xraE => alu .xra .e
    | .xraH => alu .xra .h | .xraL => alu .xra .l | .xraM => alu .xra .m | .xraA => alu .xra .a | .oraB => alu .ora .b
    | .oraC => alu .ora .c | .oraD => alu .ora .d | .oraE => alu .ora .e | .oraH => alu .ora .h | .oraL => alu .ora .l
    | .oraM => alu .ora .m | .oraA => alu .ora .a | .cmpB => alu .cmp .b | .cmpC => alu .cmp .c | .cmpD => alu .cmp .d
    | .cmpE => alu .cmp .e | .cmpH => alu .cmp .h | .cmpL => alu .cmp .l | .cmpM => alu .cmp .m | .cmpA => alu .cmp .a
    | .rnz => rcc .nz | .popB => pop .bc | .jnz v => jcc .nz v | .jmp v => jmp v | .cnz v => ccc .nz v | .pushB => push .bc
    | .adi v => aluImm .add v | .rst0 => rst 0 | .rz => rcc .z | .ret => ret | .jz v => jcc .z v | .cz v => ccc .z v
    | .call v => call v | .aci v => aluImm .adc v | .rst1 => rst 1 | .rnc => rcc .nc | .popD => pop .de
    | .jnc v => jcc .nc v | .outPort v => outPort v | .cnc v => ccc .nc v | .pushD => push .de | .sui v => aluImm .sub v
    | .rst2 => rst 2 | .rc => rcc .c | .jc v => jcc .c v | .inPort v => inPort v | .cc v => ccc .c v
    | .sbi v => aluImm .sbb v | .rst3 => rst 3 | .rpo => rcc .po | .popH => pop .hl | .jpo v => jcc .po v | .xthl => xthl
    | .cpo v => ccc .po v | .pushH => push .hl | .ani v => aluImm .ana v | .rst4 => rst 4 | .rpe => rcc .pe | .pchl => pchl
    | .jpe v => jcc .pe v | .xchg => xchg | .cpe v => ccc .pe v | .xri v => aluImm .xra v | .rst5 => rst 5 | .rp => rcc .p
    | .popPsw => pop .psw | .jp v => jcc .p v | .di => di | .cp v => ccc .p v | .pushPsw => push .psw
    | .ori v => aluImm .ora v | .rst6 => rst 6 | .rm => rcc .m | .sphl => sphl | .jm v => jcc .m v | .ei => ei
    | .cm v => ccc .m v | .cpi v => aluImm .cmp v | .rst7 => rst 7
    | .undefinedOp v => undefinedOp v

/-! ### The meaning of each family -/

theorem exec_ofMov (s : State) {dst src : R8} (h : ¬(dst = .m ∧ src = .m)) :
    exec (.ofMov dst src) s = .next (s.mov dst src) := by
  cases dst <;> cases src <;> first | rfl | exact absurd ⟨rfl, rfl⟩ h

theorem exec_ofAlu (s : State) (op : AluOp) (r : R8) : exec (.ofAlu op r) s = .next (s.aluReg op r) := by
  cases op <;> cases r <;> rfl

theorem exec_ofAluImm (s : State) (op : AluOp) (imm : Byte) : exec (.ofAluImm op imm) s = .next (s.aluImm op imm) := by
  cases op <;> rfl

theorem exec_ofMvi (s : State) (dst : R8) (imm : Byte) : exec (.ofMvi dst imm) s = .next (s.mvi dst imm) := by
  cases dst <;> rfl

theorem exec_ofInr (s : State) (dst : R8) : exec (.ofInr dst) s = .next (s.inr dst) := by cases dst <;> rfl

theorem exec_ofDcr (s : State) (dst : R8) : exec (.ofDcr dst) s = .next (s.dcr dst) := by cases dst <;> rfl

theorem exec_ofLxi (s : State) (p : RP) (w : Word) : exec (.ofLxi p w) s = .next (s.lxi p w) := by cases p <;> rfl

theorem exec_ofInx (s : State) (p : RP) : exec (.ofInx p) s = .next (s.inx p) := by cases p <;> rfl

theorem exec_ofDcx (s : State) (p : RP) : exec (.ofDcx p) s = .next (s.dcx p) := by cases p <;> rfl

theorem exec_ofDad (s : State) (p : RP) : exec (.ofDad p) s = .next (s.dad p) := by cases p <;> rfl

theorem exec_ofPush (s : State) (p : StackPair) : exec (.ofPush p) s = .next (s.pushPair p) := by cases p <;> rfl

theorem exec_ofPop (s : State) (p : StackPair) : exec (.ofPop p) s = .next (s.popPair p) := by cases p <;> rfl

theorem exec_ofJcc (s : State) (cc : Cond) (w : Word) :
    ∃ op, (encode (.ofJcc cc w)).head? = some op ∧ exec (.ofJcc cc w) s = .next (s.jumpIf cc op w) := by
  cases cc <;> exact ⟨_, rfl, rfl⟩

theorem exec_ofCcc (s : State) (cc : Cond) (w : Word) : exec (.ofCcc cc w) s = .next (s.callIf cc w) := by cases cc <;> rfl

theorem exec_ofRcc (s : State) (cc : Cond) : exec (.ofRcc cc) s = .next (s.retIf cc) := by cases cc <;> rfl

theorem exec_ofRst (s : State) (n : Fin 8) : exec (.ofRst n.val) s = .next (s.rst n) := by
  rcases n with ⟨n, h⟩
  match n, h with
  | 0, _ | 1, _ | 2, _ | 3, _ | 4, _ | 5, _ | 6, _ | 7, _ => rfl

/-- A CALL the hook does not claim is a call, and one it claims is the intercept (rules R184, R255). -/
theorem exec_call_cases (s : State) (w : Word) :
    (s.claimsCall w = false ∧ exec (.call w) s = .next (s.callTo (s.pc + 3#16) w)) ∨
    (s.diagEnabled = true ∧ w = 0x0005#16 ∧ s.claimsCall w = true ∧ exec (.call w) s = s.intercept) := by
  show (_ ∧ execCall w s = _) ∨ (_ ∧ _ ∧ _ ∧ execCall w s = _)
  unfold execCall
  cases h : s.claimsCall w
  · exact .inl ⟨rfl, rfl⟩
  · have h' := h
    unfold State.claimsCall at h'
    rw [Bool.and_eq_true] at h'
    exact .inr ⟨h'.1, of_decide_eq_true h'.2, rfl, rfl⟩

end Sys2Proof
end

