-- ==== Sys2Proof/Laws/PerInstr.lean ====
section
/-! SUPPORT. For every instruction: its encoding is as long as its first byte says (rules R80, R95). One lemma per constructor. -/

namespace Sys2Proof.Laws.EncodedLength

/-- The encoding of a well-formed instruction begins with a byte that gives the encoding's length. -/
def Statement (i : Instr) : Prop := i.wf = true → (encode i).head?.map opLength = some (encode i).length

theorem nop : Statement .nop := fun _ => rfl
theorem lxiB (w : Word) : Statement (.lxiB w) := fun _ => rfl
theorem staxB : Statement .staxB := fun _ => rfl
theorem inxB : Statement .inxB := fun _ => rfl
theorem inrB : Statement .inrB := fun _ => rfl
theorem dcrB : Statement .dcrB := fun _ => rfl
theorem mviB (imm : Byte) : Statement (.mviB imm) := fun _ => rfl
theorem rlc : Statement .rlc := fun _ => rfl
theorem dadB : Statement .dadB := fun _ => rfl
theorem ldaxB : Statement .ldaxB := fun _ => rfl
theorem dcxB : Statement .dcxB := fun _ => rfl
theorem inrC : Statement .inrC := fun _ => rfl
theorem dcrC : Statement .dcrC := fun _ => rfl
theorem mviC (imm : Byte) : Statement (.mviC imm) := fun _ => rfl
theorem rrc : Statement .rrc := fun _ => rfl
theorem lxiD (w : Word) : Statement (.lxiD w) := fun _ => rfl
theorem staxD : Statement .staxD := fun _ => rfl
theorem inxD : Statement .inxD := fun _ => rfl
theorem inrD : Statement .inrD := fun _ => rfl
theorem dcrD : Statement .dcrD := fun _ => rfl
theorem mviD (imm : Byte) : Statement (.mviD imm) := fun _ => rfl
theorem ral : Statement .ral := fun _ => rfl
theorem dadD : Statement .dadD := fun _ => rfl
theorem ldaxD : Statement .ldaxD := fun _ => rfl
theorem dcxD : Statement .dcxD := fun _ => rfl
theorem inrE : Statement .inrE := fun _ => rfl
theorem dcrE : Statement .dcrE := fun _ => rfl
theorem mviE (imm : Byte) : Statement (.mviE imm) := fun _ => rfl
theorem rar : Statement .rar := fun _ => rfl
theorem lxiH (w : Word) : Statement (.lxiH w) := fun _ => rfl
theorem shld (w : Word) : Statement (.shld w) := fun _ => rfl
theorem inxH : Statement .inxH := fun _ => rfl
theorem inrH : Statement .inrH := fun _ => rfl
theorem dcrH : Statement .dcrH := fun _ => rfl
theorem mviH (imm : Byte) : Statement (.mviH imm) := fun _ => rfl
theorem daa : Statement .daa := fun _ => rfl
theorem dadH : Statement .dadH := fun _ => rfl
theorem lhld (w : Word) : Statement (.lhld w) := fun _ => rfl
theorem dcxH : Statement .dcxH := fun _ => rfl
theorem inrL : Statement .inrL := fun _ => rfl
theorem dcrL : Statement .dcrL := fun _ => rfl
theorem mviL (imm : Byte) : Statement (.mviL imm) := fun _ => rfl
theorem cma : Statement .cma := fun _ => rfl
theorem lxiSp (w : Word) : Statement (.lxiSp w) := fun _ => rfl
theorem sta (w : Word) : Statement (.sta w) := fun _ => rfl
theorem inxSp : Statement .inxSp := fun _ => rfl
theorem inrM : Statement .inrM := fun _ => rfl
theorem dcrM : Statement .dcrM := fun _ => rfl
theorem mviM (imm : Byte) : Statement (.mviM imm) := fun _ => rfl
theorem stc : Statement .stc := fun _ => rfl
theorem dadSp : Statement .dadSp := fun _ => rfl
theorem lda (w : Word) : Statement (.lda w) := fun _ => rfl
theorem dcxSp : Statement .dcxSp := fun _ => rfl
theorem inrA : Statement .inrA := fun _ => rfl
theorem dcrA : Statement .dcrA := fun _ => rfl
theorem mviA (imm : Byte) : Statement (.mviA imm) := fun _ => rfl
theorem cmc : Statement .cmc := fun _ => rfl
theorem movBB : Statement .movBB := fun _ => rfl
theorem movBC : Statement .movBC := fun _ => rfl
theorem movBD : Statement .movBD := fun _ => rfl
theorem movBE : Statement .movBE := fun _ => rfl
theorem movBH : Statement .movBH := fun _ => rfl
theorem movBL : Statement .movBL := fun _ => rfl
theorem movBM : Statement .movBM := fun _ => rfl
theorem movBA : Statement .movBA := fun _ => rfl
theorem movCB : Statement .movCB := fun _ => rfl
theorem movCC : Statement .movCC := fun _ => rfl
theorem movCD : Statement .movCD := fun _ => rfl
theorem movCE : Statement .movCE := fun _ => rfl
theorem movCH : Statement .movCH := fun _ => rfl
theorem movCL : Statement .movCL := fun _ => rfl
theorem movCM : Statement .movCM := fun _ => rfl
theorem movCA : Statement .movCA := fun _ => rfl
theorem movDB : Statement .movDB := fun _ => rfl
theorem movDC : Statement .movDC := fun _ => rfl
theorem movDD : Statement .movDD := fun _ => rfl
theorem movDE : Statement .movDE := fun _ => rfl
theorem movDH : Statement .movDH := fun _ => rfl
theorem movDL : Statement .movDL := fun _ => rfl
theorem movDM : Statement .movDM := fun _ => rfl
theorem movDA : Statement .movDA := fun _ => rfl
theorem movEB : Statement .movEB := fun _ => rfl
theorem movEC : Statement .movEC := fun _ => rfl
theorem movED : Statement .movED := fun _ => rfl
theorem movEE : Statement .movEE := fun _ => rfl
theorem movEH : Statement .movEH := fun _ => rfl
theorem movEL : Statement .movEL := fun _ => rfl
theorem movEM : Statement .movEM := fun _ => rfl
theorem movEA : Statement .movEA := fun _ => rfl
theorem movHB : Statement .movHB := fun _ => rfl
theorem movHC : Statement .movHC := fun _ => rfl
theorem movHD : Statement .movHD := fun _ => rfl
theorem movHE : Statement .movHE := fun _ => rfl
theorem movHH : Statement .movHH := fun _ => rfl
theorem movHL : Statement .movHL := fun _ => rfl
theorem movHM : Statement .movHM := fun _ => rfl
theorem movHA : Statement .movHA := fun _ => rfl
theorem movLB : Statement .movLB := fun _ => rfl
theorem movLC : Statement .movLC := fun _ => rfl
theorem movLD : Statement .movLD := fun _ => rfl
theorem movLE : Statement .movLE := fun _ => rfl
theorem movLH : Statement .movLH := fun _ => rfl
theorem movLL : Statement .movLL := fun _ => rfl
theorem movLM : Statement .movLM := fun _ => rfl
theorem movLA : Statement .movLA := fun _ => rfl
theorem movMB : Statement .movMB := fun _ => rfl
theorem movMC : Statement .movMC := fun _ => rfl
theorem movMD : Statement .movMD := fun _ => rfl
theorem movME : Statement .movME := fun _ => rfl
theorem movMH : Statement .movMH := fun _ => rfl
theorem movML : Statement .movML := fun _ => rfl
theorem hlt : Statement .hlt := fun _ => rfl
theorem movMA : Statement .movMA := fun _ => rfl
theorem movAB : Statement .movAB := fun _ => rfl
theorem movAC : Statement .movAC := fun _ => rfl
theorem movAD : Statement .movAD := fun _ => rfl
theorem movAE : Statement .movAE := fun _ => rfl
theorem movAH : Statement .movAH := fun _ => rfl
theorem movAL : Statement .movAL := fun _ => rfl
theorem movAM : Statement .movAM := fun _ => rfl
theorem movAA : Statement .movAA := fun _ => rfl
theorem addB : Statement .addB := fun _ => rfl
theorem addC : Statement .addC := fun _ => rfl
theorem addD : Statement .addD := fun _ => rfl
theorem addE : Statement .addE := fun _ => rfl
theorem addH : Statement .addH := fun _ => rfl
theorem addL : Statement .addL := fun _ => rfl
theorem addM : Statement .addM := fun _ => rfl
theorem addA : Statement .addA := fun _ => rfl
theorem adcB : Statement .adcB := fun _ => rfl
theorem adcC : Statement .adcC := fun _ => rfl
theorem adcD : Statement .adcD := fun _ => rfl
theorem adcE : Statement .adcE := fun _ => rfl
theorem adcH : Statement .adcH := fun _ => rfl
theorem adcL : Statement .adcL := fun _ => rfl
theorem adcM : Statement .adcM := fun _ => rfl
theorem adcA : Statement .adcA := fun _ => rfl
theorem subB : Statement .subB := fun _ => rfl
theorem subC : Statement .subC := fun _ => rfl
theorem subD : Statement .subD := fun _ => rfl
theorem subE : Statement .subE := fun _ => rfl
theorem subH : Statement .subH := fun _ => rfl
theorem subL : Statement .subL := fun _ => rfl
theorem subM : Statement .subM := fun _ => rfl
theorem subA : Statement .subA := fun _ => rfl
theorem sbbB : Statement .sbbB := fun _ => rfl
theorem sbbC : Statement .sbbC := fun _ => rfl
theorem sbbD : Statement .sbbD := fun _ => rfl
theorem sbbE : Statement .sbbE := fun _ => rfl
theorem sbbH : Statement .sbbH := fun _ => rfl
theorem sbbL : Statement .sbbL := fun _ => rfl
theorem sbbM : Statement .sbbM := fun _ => rfl
theorem sbbA : Statement .sbbA := fun _ => rfl
theorem anaB : Statement .anaB := fun _ => rfl
theorem anaC : Statement .anaC := fun _ => rfl
theorem anaD : Statement .anaD := fun _ => rfl
theorem anaE : Statement .anaE := fun _ => rfl
theorem anaH : Statement .anaH := fun _ => rfl
theorem anaL : Statement .anaL := fun _ => rfl
theorem anaM : Statement .anaM := fun _ => rfl
theorem anaA : Statement .anaA := fun _ => rfl
theorem xraB : Statement .xraB := fun _ => rfl
theorem xraC : Statement .xraC := fun _ => rfl
theorem xraD : Statement .xraD := fun _ => rfl
theorem xraE : Statement .xraE := fun _ => rfl
theorem xraH : Statement .xraH := fun _ => rfl
theorem xraL : Statement .xraL := fun _ => rfl
theorem xraM : Statement .xraM := fun _ => rfl
theorem xraA : Statement .xraA := fun _ => rfl
theorem oraB : Statement .oraB := fun _ => rfl
theorem oraC : Statement .oraC := fun _ => rfl
theorem oraD : Statement .oraD := fun _ => rfl
theorem oraE : Statement .oraE := fun _ => rfl
theorem oraH : Statement .oraH := fun _ => rfl
theorem oraL : Statement .oraL := fun _ => rfl
theorem oraM : Statement .oraM := fun _ => rfl
theorem oraA : Statement .oraA := fun _ => rfl
theorem cmpB : Statement .cmpB := fun _ => rfl
theorem cmpC : Statement .cmpC := fun _ => rfl
theorem cmpD : Statement .cmpD := fun _ => rfl
theorem cmpE : Statement .cmpE := fun _ => rfl
theorem cmpH : Statement .cmpH := fun _ => rfl
theorem cmpL : Statement .cmpL := fun _ => rfl
theorem cmpM : Statement .cmpM := fun _ => rfl
theorem cmpA : Statement .cmpA := fun _ => rfl
theorem rnz : Statement .rnz := fun _ => rfl
theorem popB : Statement .popB := fun _ => rfl
theorem jnz (w : Word) : Statement (.jnz w) := fun _ => rfl
theorem jmp (w : Word) : Statement (.jmp w) := fun _ => rfl
theorem cnz (w : Word) : Statement (.cnz w) := fun _ => rfl
theorem pushB : Statement .pushB := fun _ => rfl
theorem adi (imm : Byte) : Statement (.adi imm) := fun _ => rfl
theorem rst0 : Statement .rst0 := fun _ => rfl
theorem rz : Statement .rz := fun _ => rfl
theorem ret : Statement .ret := fun _ => rfl
theorem jz (w : Word) : Statement (.jz w) := fun _ => rfl
theorem cz (w : Word) : Statement (.cz w) := fun _ => rfl
theorem call (w : Word) : Statement (.call w) := fun _ => rfl
theorem aci (imm : Byte) : Statement (.aci imm) := fun _ => rfl
theorem rst1 : Statement .rst1 := fun _ => rfl
theorem rnc : Statement .rnc := fun _ => rfl
theorem popD : Statement .popD := fun _ => rfl
theorem jnc (w : Word) : Statement (.jnc w) := fun _ => rfl
theorem outPort (imm : Byte) : Statement (.outPort imm) := fun _ => rfl
theorem cnc (w : Word) : Statement (.cnc w) := fun _ => rfl
theorem pushD : Statement .pushD := fun _ => rfl
theorem sui (imm : Byte) : Statement (.sui imm) := fun _ => rfl
theorem rst2 : Statement .rst2 := fun _ => rfl
theorem rc : Statement .rc := fun _ => rfl
theorem jc (w : Word) : Statement (.jc w) := fun _ => rfl
theorem inPort (imm : Byte) : Statement (.inPort imm) := fun _ => rfl
theorem cc (w : Word) : Statement (.cc w) := fun _ => rfl
theorem sbi (imm : Byte) : Statement (.sbi imm) := fun _ => rfl
theorem rst3 : Statement .rst3 := fun _ => rfl
theorem rpo : Statement .rpo := fun _ => rfl
theorem popH : Statement .popH := fun _ => rfl
theorem jpo (w : Word) : Statement (.jpo w) := fun _ => rfl
theorem xthl : Statement .xthl := fun _ => rfl
theorem cpo (w : Word) : Statement (.cpo w) := fun _ => rfl
theorem pushH : Statement .pushH := fun _ => rfl
theorem ani (imm : Byte) : Statement (.ani imm) := fun _ => rfl
theorem rst4 : Statement .rst4 := fun _ => rfl
theorem rpe : Statement .rpe := fun _ => rfl
theorem pchl : Statement .pchl := fun _ => rfl
theorem jpe (w : Word) : Statement (.jpe w) := fun _ => rfl
theorem xchg : Statement .xchg := fun _ => rfl
theorem cpe (w : Word) : Statement (.cpe w) := fun _ => rfl
theorem xri (imm : Byte) : Statement (.xri imm) := fun _ => rfl
theorem rst5 : Statement .rst5 := fun _ => rfl
theorem rp : Statement .rp := fun _ => rfl
theorem popPsw : Statement .popPsw := fun _ => rfl
theorem jp (w : Word) : Statement (.jp w) := fun _ => rfl
theorem di : Statement .di := fun _ => rfl
theorem cp (w : Word) : Statement (.cp w) := fun _ => rfl
theorem pushPsw : Statement .pushPsw := fun _ => rfl
theorem ori (imm : Byte) : Statement (.ori imm) := fun _ => rfl
theorem rst6 : Statement .rst6 := fun _ => rfl
theorem rm : Statement .rm := fun _ => rfl
theorem sphl : Statement .sphl := fun _ => rfl
theorem jm (w : Word) : Statement (.jm w) := fun _ => rfl
theorem ei : Statement .ei := fun _ => rfl
theorem cm (w : Word) : Statement (.cm w) := fun _ => rfl
theorem cpi (imm : Byte) : Statement (.cpi imm) := fun _ => rfl
theorem rst7 : Statement .rst7 := fun _ => rfl
theorem undefinedOp (op : Byte) : Statement (.undefinedOp op) := by
  intro h
  have : opLength op = 1 := by rw [opLength, if_pos (show Config.undefinedOpcodes.contains op = true from h)]
  simp [encode, this]

end Sys2Proof.Laws.EncodedLength
end

