-- ==== Sys2Proof/Tests/Slice0.lean ====
section
/-! SUPPORT. Tests of the model: the refused ill-formed term, the decoding of the spec's whole opcode map, single steps taken from
the vectors of 95_test_vectors.md, how a step comes to run a placed word, and for every obligation with hypotheses a state and
operands that meet them. -/

namespace Sys2Proof.Tests

open Sys2Proof.Machine

set_option Elab.async false

/-! ### Well-formedness -/

/-- An `undefinedOp` of a byte that has a handler is ill-formed (rule R93). -/
theorem test_wf_refuses_defined_byte : Instr.wf (.undefinedOp 0x00#8) = false ∧ Instr.wf (.undefinedOp 0xCD#8) = false := by decide

/-- An `undefinedOp` of a byte of UNDEFINED_OPCODES is well-formed (rule R93). -/
theorem test_wf_accepts_undefined_byte : Instr.wf (.undefinedOp 0xFD#8) = true := by decide

/-! ### Decoding: the map of rule R92, row by row, with the lengths of rule R95 -/

/-- Each list of bytes decodes to the instruction beside it and leaves the one byte that follows. -/
def decodesTo (rows : List (List Byte × Instr)) : Bool :=
  rows.all fun row => match decodeBytes (row.1 ++ [0x76#8]) with
    | .ok (i, rest) => decide (i = row.2) && decide (rest = [0x76#8])
    | .error _ => false

/-- Row 0x of the map of rule R92. -/
theorem test_decode_row_0 : decodesTo [
    ([0x00#8], .nop), ([0x01#8, 0x34#8, 0x12#8], .lxiB 0x1234#16), ([0x02#8], .staxB), ([0x03#8], .inxB),
    ([0x04#8], .inrB), ([0x05#8], .dcrB), ([0x06#8, 0x9A#8], .mviB 0x9A#8), ([0x07#8], .rlc),
    ([0x08#8], .undefinedOp 0x08#8), ([0x09#8], .dadB), ([0x0A#8], .ldaxB), ([0x0B#8], .dcxB), ([0x0C#8], .inrC),
    ([0x0D#8], .dcrC), ([0x0E#8, 0x9A#8], .mviC 0x9A#8), ([0x0F#8], .rrc)] = true := by decide +kernel

/-- Row 1x of the map of rule R92. -/
theorem test_decode_row_1 : decodesTo [
    ([0x10#8], .undefinedOp 0x10#8), ([0x11#8, 0x34#8, 0x12#8], .lxiD 0x1234#16), ([0x12#8], .staxD), ([0x13#8], .inxD),
    ([0x14#8], .inrD), ([0x15#8], .dcrD), ([0x16#8, 0x9A#8], .mviD 0x9A#8), ([0x17#8], .ral),
    ([0x18#8], .undefinedOp 0x18#8), ([0x19#8], .dadD), ([0x1A#8], .ldaxD), ([0x1B#8], .dcxD), ([0x1C#8], .inrE),
    ([0x1D#8], .dcrE), ([0x1E#8, 0x9A#8], .mviE 0x9A#8), ([0x1F#8], .rar)] = true := by decide +kernel

/-- Row 2x of the map of rule R92. -/
theorem test_decode_row_2 : decodesTo [
    ([0x20#8], .undefinedOp 0x20#8), ([0x21#8, 0x34#8, 0x12#8], .lxiH 0x1234#16),
    ([0x22#8, 0x34#8, 0x12#8], .shld 0x1234#16), ([0x23#8], .inxH), ([0x24#8], .inrH), ([0x25#8], .dcrH),
    ([0x26#8, 0x9A#8], .mviH 0x9A#8), ([0x27#8], .daa), ([0x28#8], .undefinedOp 0x28#8), ([0x29#8], .dadH),
    ([0x2A#8, 0x34#8, 0x12#8], .lhld 0x1234#16), ([0x2B#8], .dcxH), ([0x2C#8], .inrL), ([0x2D#8], .dcrL),
    ([0x2E#8, 0x9A#8], .mviL 0x9A#8), ([0x2F#8], .cma)] = true := by decide +kernel

/-- Row 3x of the map of rule R92. -/
theorem test_decode_row_3 : decodesTo [
    ([0x30#8], .undefinedOp 0x30#8), ([0x31#8, 0x34#8, 0x12#8], .lxiSp 0x1234#16),
    ([0x32#8, 0x34#8, 0x12#8], .sta 0x1234#16), ([0x33#8], .inxSp), ([0x34#8], .inrM), ([0x35#8], .dcrM),
    ([0x36#8, 0x9A#8], .mviM 0x9A#8), ([0x37#8], .stc), ([0x38#8], .undefinedOp 0x38#8), ([0x39#8], .dadSp),
    ([0x3A#8, 0x34#8, 0x12#8], .lda 0x1234#16), ([0x3B#8], .dcxSp), ([0x3C#8], .inrA), ([0x3D#8], .dcrA),
    ([0x3E#8, 0x9A#8], .mviA 0x9A#8), ([0x3F#8], .cmc)] = true := by decide +kernel

/-- Row 4x of the map of rule R92. -/
theorem test_decode_row_4 : decodesTo [
    ([0x40#8], .movBB), ([0x41#8], .movBC), ([0x42#8], .movBD), ([0x43#8], .movBE), ([0x44#8], .movBH), ([0x45#8], .movBL),
    ([0x46#8], .movBM), ([0x47#8], .movBA), ([0x48#8], .movCB), ([0x49#8], .movCC), ([0x4A#8], .movCD), ([0x4B#8], .movCE),
    ([0x4C#8], .movCH), ([0x4D#8], .movCL), ([0x4E#8], .movCM), ([0x4F#8], .movCA)] = true := by decide +kernel

/-- Row 5x of the map of rule R92. -/
theorem test_decode_row_5 : decodesTo [
    ([0x50#8], .movDB), ([0x51#8], .movDC), ([0x52#8], .movDD), ([0x53#8], .movDE), ([0x54#8], .movDH), ([0x55#8], .movDL),
    ([0x56#8], .movDM), ([0x57#8], .movDA), ([0x58#8], .movEB), ([0x59#8], .movEC), ([0x5A#8], .movED), ([0x5B#8], .movEE),
    ([0x5C#8], .movEH), ([0x5D#8], .movEL), ([0x5E#8], .movEM), ([0x5F#8], .movEA)] = true := by decide +kernel

/-- Row 6x of the map of rule R92. -/
theorem test_decode_row_6 : decodesTo [
    ([0x60#8], .movHB), ([0x61#8], .movHC), ([0x62#8], .movHD), ([0x63#8], .movHE), ([0x64#8], .movHH), ([0x65#8], .movHL),
    ([0x66#8], .movHM), ([0x67#8], .movHA), ([0x68#8], .movLB), ([0x69#8], .movLC), ([0x6A#8], .movLD), ([0x6B#8], .movLE),
    ([0x6C#8], .movLH), ([0x6D#8], .movLL), ([0x6E#8], .movLM), ([0x6F#8], .movLA)] = true := by decide +kernel

/-- Row 7x of the map of rule R92. -/
theorem test_decode_row_7 : decodesTo [
    ([0x70#8], .movMB), ([0x71#8], .movMC), ([0x72#8], .movMD), ([0x73#8], .movME), ([0x74#8], .movMH), ([0x75#8], .movML),
    ([0x76#8], .hlt), ([0x77#8], .movMA), ([0x78#8], .movAB), ([0x79#8], .movAC), ([0x7A#8], .movAD), ([0x7B#8], .movAE),
    ([0x7C#8], .movAH), ([0x7D#8], .movAL), ([0x7E#8], .movAM), ([0x7F#8], .movAA)] = true := by decide +kernel

/-- Row 8x of the map of rule R92. -/
theorem test_decode_row_8 : decodesTo [
    ([0x80#8], .addB), ([0x81#8], .addC), ([0x82#8], .addD), ([0x83#8], .addE), ([0x84#8], .addH), ([0x85#8], .addL),
    ([0x86#8], .addM), ([0x87#8], .addA), ([0x88#8], .adcB), ([0x89#8], .adcC), ([0x8A#8], .adcD), ([0x8B#8], .adcE),
    ([0x8C#8], .adcH), ([0x8D#8], .adcL), ([0x8E#8], .adcM), ([0x8F#8], .adcA)] = true := by decide +kernel

/-- Row 9x of the map of rule R92. -/
theorem test_decode_row_9 : decodesTo [
    ([0x90#8], .subB), ([0x91#8], .subC), ([0x92#8], .subD), ([0x93#8], .subE), ([0x94#8], .subH), ([0x95#8], .subL),
    ([0x96#8], .subM), ([0x97#8], .subA), ([0x98#8], .sbbB), ([0x99#8], .sbbC), ([0x9A#8], .sbbD), ([0x9B#8], .sbbE),
    ([0x9C#8], .sbbH), ([0x9D#8], .sbbL), ([0x9E#8], .sbbM), ([0x9F#8], .sbbA)] = true := by decide +kernel

/-- Row Ax of the map of rule R92. -/
theorem test_decode_row_a : decodesTo [
    ([0xA0#8], .anaB), ([0xA1#8], .anaC), ([0xA2#8], .anaD), ([0xA3#8], .anaE), ([0xA4#8], .anaH), ([0xA5#8], .anaL),
    ([0xA6#8], .anaM), ([0xA7#8], .anaA), ([0xA8#8], .xraB), ([0xA9#8], .xraC), ([0xAA#8], .xraD), ([0xAB#8], .xraE),
    ([0xAC#8], .xraH), ([0xAD#8], .xraL), ([0xAE#8], .xraM), ([0xAF#8], .xraA)] = true := by decide +kernel

/-- Row Bx of the map of rule R92. -/
theorem test_decode_row_b : decodesTo [
    ([0xB0#8], .oraB), ([0xB1#8], .oraC), ([0xB2#8], .oraD), ([0xB3#8], .oraE), ([0xB4#8], .oraH), ([0xB5#8], .oraL),
    ([0xB6#8], .oraM), ([0xB7#8], .oraA), ([0xB8#8], .cmpB), ([0xB9#8], .cmpC), ([0xBA#8], .cmpD), ([0xBB#8], .cmpE),
    ([0xBC#8], .cmpH), ([0xBD#8], .cmpL), ([0xBE#8], .cmpM), ([0xBF#8], .cmpA)] = true := by decide +kernel

/-- Row Cx of the map of rule R92. -/
theorem test_decode_row_c : decodesTo [
    ([0xC0#8], .rnz), ([0xC1#8], .popB), ([0xC2#8, 0x34#8, 0x12#8], .jnz 0x1234#16),
    ([0xC3#8, 0x34#8, 0x12#8], .jmp 0x1234#16), ([0xC4#8, 0x34#8, 0x12#8], .cnz 0x1234#16), ([0xC5#8], .pushB),
    ([0xC6#8, 0x9A#8], .adi 0x9A#8), ([0xC7#8], .rst0), ([0xC8#8], .rz), ([0xC9#8], .ret),
    ([0xCA#8, 0x34#8, 0x12#8], .jz 0x1234#16), ([0xCB#8], .undefinedOp 0xCB#8), ([0xCC#8, 0x34#8, 0x12#8], .cz 0x1234#16),
    ([0xCD#8, 0x34#8, 0x12#8], .call 0x1234#16), ([0xCE#8, 0x9A#8], .aci 0x9A#8), ([0xCF#8], .rst1)] = true := by decide +kernel

/-- Row Dx of the map of rule R92. -/
theorem test_decode_row_d : decodesTo [
    ([0xD0#8], .rnc), ([0xD1#8], .popD), ([0xD2#8, 0x34#8, 0x12#8], .jnc 0x1234#16), ([0xD3#8, 0x9A#8], .outPort 0x9A#8),
    ([0xD4#8, 0x34#8, 0x12#8], .cnc 0x1234#16), ([0xD5#8], .pushD), ([0xD6#8, 0x9A#8], .sui 0x9A#8), ([0xD7#8], .rst2),
    ([0xD8#8], .rc), ([0xD9#8], .undefinedOp 0xD9#8), ([0xDA#8, 0x34#8, 0x12#8], .jc 0x1234#16),
    ([0xDB#8, 0x9A#8], .inPort 0x9A#8), ([0xDC#8, 0x34#8, 0x12#8], .cc 0x1234#16), ([0xDD#8], .undefinedOp 0xDD#8),
    ([0xDE#8, 0x9A#8], .sbi 0x9A#8), ([0xDF#8], .rst3)] = true := by decide +kernel

/-- Row Ex of the map of rule R92. -/
theorem test_decode_row_e : decodesTo [
    ([0xE0#8], .rpo), ([0xE1#8], .popH), ([0xE2#8, 0x34#8, 0x12#8], .jpo 0x1234#16), ([0xE3#8], .xthl),
    ([0xE4#8, 0x34#8, 0x12#8], .cpo 0x1234#16), ([0xE5#8], .pushH), ([0xE6#8, 0x9A#8], .ani 0x9A#8), ([0xE7#8], .rst4),
    ([0xE8#8], .rpe), ([0xE9#8], .pchl), ([0xEA#8, 0x34#8, 0x12#8], .jpe 0x1234#16), ([0xEB#8], .xchg),
    ([0xEC#8, 0x34#8, 0x12#8], .cpe 0x1234#16), ([0xED#8], .undefinedOp 0xED#8), ([0xEE#8, 0x9A#8], .xri 0x9A#8),
    ([0xEF#8], .rst5)] = true := by decide +kernel

/-- Row Fx of the map of rule R92. -/
theorem test_decode_row_f : decodesTo [
    ([0xF0#8], .rp), ([0xF1#8], .popPsw), ([0xF2#8, 0x34#8, 0x12#8], .jp 0x1234#16), ([0xF3#8], .di),
    ([0xF4#8, 0x34#8, 0x12#8], .cp 0x1234#16), ([0xF5#8], .pushPsw), ([0xF6#8, 0x9A#8], .ori 0x9A#8), ([0xF7#8], .rst6),
    ([0xF8#8], .rm), ([0xF9#8], .sphl), ([0xFA#8, 0x34#8, 0x12#8], .jm 0x1234#16), ([0xFB#8], .ei),
    ([0xFC#8, 0x34#8, 0x12#8], .cm 0x1234#16), ([0xFD#8], .undefinedOp 0xFD#8), ([0xFE#8, 0x9A#8], .cpi 0x9A#8),
    ([0xFF#8], .rst7)] = true := by decide +kernel

/-- A three-byte instruction cut short is refused by name. -/
theorem test_decode_truncated : decodeBytes [0x21#8, 0x34#8] = .error .truncated := by rfl

/-! ### Single steps: vectors of 95_test_vectors.md -/

/-- The start state of the vectors: `pc` 0x0100, `sp` 0x2400, everything else 0, the given memory and mode. -/
def vecStart (m : Memory) (diagEnabled : Bool) : State :=
  State.create 0x0100#16 0x2400#16 m (Vector.replicate 8 0x00#8) diagEnabled

/-- One step gives a next state of which `p` holds. -/
def stepGives (s : State) (p : State → Bool) : Bool :=
  match step s with
  | .next t => p t
  | .fault _ => false
  | .refused _ => false

/-- V1: MOV B,C (rule R111). -/
theorem test_v1_mov_b_c :
    stepGives { vecStart [(0x0100, 0x41#8)] false with c := 0x5A#8 }
      (fun t => t.b == 0x5A#8 && t.pc == 0x0101#16) = true := by decide +kernel

/-- V4: MOV H,M (rule R112). -/
theorem test_v4_mov_h_m :
    stepGives { vecStart [(0x0100, 0x66#8), (0x2010, 0x33#8)] false with h := 0x20#8, l := 0x10#8 }
      (fun t => t.h == 0x33#8 && t.pc == 0x0101#16) = true := by decide +kernel

/-- V6: MOV M,L (rule R113). -/
theorem test_v6_mov_m_l :
    stepGives { vecStart [(0x0100, 0x75#8)] false with h := 0x23#8, l := 0x45#8 }
      (fun t => t.pc == 0x0101#16 && t.readByte 0x2345#16 == 0x45#8) = true := by decide +kernel

/-- V8: MVI A,0x00 (rule R114). -/
theorem test_v8_mvi_a_0x00 :
    stepGives { vecStart [(0x0100, 0x3E#8)] false with
        a := 0x12#8, flags := { cy := true, z := false, s := false, p := false, ac := false } }
      (fun t => t.a == 0x00#8 && t.flags.cy == true && t.flags.z == false && t.flags.s == false && t.flags.p == false &&
        t.pc == 0x0102#16) = true := by decide +kernel

/-- V10: MVI M,0x55 with HL=0x0101 (the store lands on the immediate byte itself) (rule R115). -/
theorem test_v10_mvi_m_0x55 :
    stepGives { vecStart [(0x0100, 0x36#8), (0x0101, 0x55#8)] false with h := 0x01#8, l := 0x01#8 }
      (fun t => t.pc == 0x0102#16) = true := by decide +kernel

/-- V11: LXI B,0xBEEF (rule R116). -/
theorem test_v11_lxi_b_0xbeef :
    stepGives (vecStart [(0x0100, 0x01#8), (0x0101, 0xEF#8), (0x0102, 0xBE#8)] false)
      (fun t => t.b == 0xBE#8 && t.c == 0xEF#8 && t.pc == 0x0103#16) = true := by decide +kernel

/-- V13: LXI H,0x00FF at pc=0xFFFE (rule R116). -/
theorem test_v13_lxi_h_0x00ff :
    stepGives { vecStart [(0xFFFE, 0x21#8), (0xFFFF, 0xFF#8)] false with pc := 0xFFFE#16 }
      (fun t => t.l == 0xFF#8 && t.pc == 0x0001#16) = true := by decide +kernel

/-- V14: LDA 0x2001 (rule R117). -/
theorem test_v14_lda_0x2001 :
    stepGives (vecStart [(0x0100, 0x3A#8), (0x0101, 0x01#8), (0x0102, 0x20#8), (0x2001, 0x42#8)] false)
      (fun t => t.a == 0x42#8 && t.pc == 0x0103#16) = true := by decide +kernel

/-- V15: STA 0x2002 (rule R120). -/
theorem test_v15_sta_0x2002 :
    stepGives { vecStart [(0x0100, 0x32#8), (0x0101, 0x02#8), (0x0102, 0x20#8)] false with a := 0x17#8 }
      (fun t => t.pc == 0x0103#16 && t.readByte 0x2002#16 == 0x17#8) = true := by decide +kernel

/-- V17: LHLD 0xFFFF (rule R118). -/
theorem test_v17_lhld_0xffff :
    stepGives (vecStart [(0x0000, 0x22#8), (0x0100, 0x2A#8), (0x0101, 0xFF#8), (0x0102, 0xFF#8), (0xFFFF, 0x11#8)] false)
      (fun t => t.h == 0x22#8 && t.l == 0x11#8 && t.pc == 0x0103#16) = true := by decide +kernel

/-- V19: SHLD 0xFFFF (rule R119). -/
theorem test_v19_shld_0xffff :
    stepGives { vecStart [(0x0100, 0x22#8), (0x0101, 0xFF#8), (0x0102, 0xFF#8)] false with
        h := 0x12#8, l := 0x34#8 }
      (fun t => t.pc == 0x0103#16 && t.readByte 0x0000#16 == 0x12#8 && t.readByte 0xFFFF#16 == 0x34#8)
      = true := by decide +kernel

/-- V20: LDAX B (rule R121). -/
theorem test_v20_ldax_b :
    stepGives { vecStart [(0x0100, 0x0A#8), (0x2100, 0x5A#8)] false with b := 0x21#8, c := 0x00#8 }
      (fun t => t.a == 0x5A#8 && t.pc == 0x0101#16) = true := by decide +kernel

/-- V21: LDAX D (rule R121). -/
theorem test_v21_ldax_d :
    stepGives { vecStart [(0x0100, 0x1A#8), (0x2101, 0xA5#8)] false with d := 0x21#8, e := 0x01#8 }
      (fun t => t.a == 0xA5#8 && t.pc == 0x0101#16) = true := by decide +kernel

/-- V22: STAX B (rule R122). -/
theorem test_v22_stax_b :
    stepGives { vecStart [(0x0100, 0x02#8)] false with a := 0x3C#8, b := 0x22#8, c := 0x00#8 }
      (fun t => t.pc == 0x0101#16 && t.readByte 0x2200#16 == 0x3C#8) = true := by decide +kernel

/-- V23: STAX D (rule R122). -/
theorem test_v23_stax_d :
    stepGives { vecStart [(0x0100, 0x12#8)] false with a := 0xC3#8, d := 0x22#8, e := 0x01#8 }
      (fun t => t.pc == 0x0101#16 && t.readByte 0x2201#16 == 0xC3#8) = true := by decide +kernel

/-- V31: ADD B (rule R138). -/
theorem test_v31_add_b :
    stepGives { vecStart [(0x0100, 0x80#8)] false with a := 0x80#8, b := 0x80#8 }
      (fun t => t.a == 0x00#8 && t.flags.cy == true && t.flags.z == true && t.flags.s == false && t.flags.p == true &&
        t.pc == 0x0101#16) = true := by decide +kernel

/-- V33: ADD M (rule R138). -/
theorem test_v33_add_m :
    stepGives { vecStart [(0x0100, 0x86#8), (0x2000, 0x01#8)] false with
        a := 0xFF#8, h := 0x20#8, l := 0x00#8 }
      (fun t => t.a == 0x00#8 && t.flags.cy == true && t.flags.z == true && t.flags.s == false && t.flags.p == true &&
        t.pc == 0x0101#16) = true := by decide +kernel

/-- V35: ADI 0xFF (rule R139). -/
theorem test_v35_adi_0xff :
    stepGives { vecStart [(0x0100, 0xC6#8), (0x0101, 0xFF#8)] false with a := 0xFF#8 }
      (fun t => t.a == 0xFE#8 && t.flags.cy == true && t.flags.z == false && t.flags.s == true && t.flags.p == false &&
        t.pc == 0x0102#16) = true := by decide +kernel

/-- V37: ADC D (rule R140). -/
theorem test_v37_adc_d :
    stepGives { vecStart [(0x0100, 0x8A#8)] false with
        a := 0xFF#8, d := 0xFF#8, flags := { cy := true, z := false, s := false, p := false, ac := false } }
      (fun t => t.a == 0xFF#8 && t.flags.cy == true && t.flags.z == false && t.flags.s == true && t.flags.p == true &&
        t.pc == 0x0101#16) = true := by decide +kernel

/-- V40: ACI 0x00 (rule R141). -/
theorem test_v40_aci_0x00 :
    stepGives { vecStart [(0x0100, 0xCE#8)] false with
        a := 0xFF#8, flags := { cy := true, z := false, s := false, p := false, ac := false } }
      (fun t => t.a == 0x00#8 && t.flags.cy == true && t.flags.z == true && t.flags.s == false && t.flags.p == true &&
        t.pc == 0x0102#16) = true := by decide +kernel

/-- V43: SUB B (rule R142). -/
theorem test_v43_sub_b :
    stepGives { vecStart [(0x0100, 0x90#8)] false with a := 0x00#8, b := 0x01#8 }
      (fun t => t.a == 0xFF#8 && t.flags.cy == true && t.flags.z == false && t.flags.s == true && t.flags.p == true &&
        t.pc == 0x0101#16) = true := by decide +kernel

/-- V46: SUB M (rule R142). -/
theorem test_v46_sub_m :
    stepGives { vecStart [(0x0100, 0x96#8), (0x2000, 0x20#8)] false with
        a := 0x10#8, h := 0x20#8, l := 0x00#8 }
      (fun t => t.a == 0xF0#8 && t.flags.cy == true && t.flags.z == false && t.flags.s == true && t.flags.p == true &&
        t.pc == 0x0101#16) = true := by decide +kernel

/-- V47: SUI 0xFF (rule R143). -/
theorem test_v47_sui_0xff :
    stepGives { vecStart [(0x0100, 0xD6#8), (0x0101, 0xFF#8)] false with a := 0x00#8 }
      (fun t => t.a == 0x01#8 && t.flags.cy == true && t.flags.z == false && t.flags.s == false && t.flags.p == false &&
        t.pc == 0x0102#16) = true := by decide +kernel

/-- V49: SBB C (rule R144). -/
theorem test_v49_sbb_c :
    stepGives { vecStart [(0x0100, 0x99#8)] false with
        a := 0x00#8, c := 0xFF#8, flags := { cy := true, z := false, s := false, p := false, ac := false } }
      (fun t => t.a == 0x00#8 && t.flags.cy == true && t.flags.z == true && t.flags.s == false && t.flags.p == true &&
        t.pc == 0x0101#16) = true := by decide +kernel

/-- V52: SBI 0x00 (rule R145). -/
theorem test_v52_sbi_0x00 :
    stepGives { vecStart [(0x0100, 0xDE#8)] false with
        a := 0x00#8, flags := { cy := true, z := false, s := false, p := false, ac := false } }
      (fun t => t.a == 0xFF#8 && t.flags.cy == true && t.flags.z == false && t.flags.s == true && t.flags.p == true &&
        t.pc == 0x0102#16) = true := by decide +kernel

/-- V54: ANA B (rule R146). -/
theorem test_v54_ana_b :
    stepGives { vecStart [(0x0100, 0xA0#8)] false with
        a := 0xF0#8, b := 0x3C#8, flags := { cy := true, z := false, s := false, p := false, ac := false } }
      (fun t => t.a == 0x30#8 && t.flags.cy == false && t.flags.z == false && t.flags.s == false && t.flags.p == true &&
        t.pc == 0x0101#16) = true := by decide +kernel

/-- V56: ANI 0x0F (rule R147). -/
theorem test_v56_ani_0x0f :
    stepGives { vecStart [(0x0100, 0xE6#8), (0x0101, 0x0F#8)] false with
        a := 0xA5#8, flags := { cy := true, z := false, s := false, p := false, ac := false } }
      (fun t => t.a == 0x05#8 && t.flags.cy == false && t.flags.z == false && t.flags.s == false && t.flags.p == true &&
        t.pc == 0x0102#16) = true := by decide +kernel

/-- V57: XRA A (rule R148). -/
theorem test_v57_xra_a :
    stepGives { vecStart [(0x0100, 0xAF#8)] false with
        a := 0x5C#8, flags := { cy := true, z := false, s := false, p := false, ac := false } }
      (fun t => t.a == 0x00#8 && t.flags.cy == false && t.flags.z == true && t.flags.s == false && t.flags.p == true &&
        t.pc == 0x0101#16) = true := by decide +kernel

/-- V59: XRI 0x80 (rule R149). -/
theorem test_v59_xri_0x80 :
    stepGives { vecStart [(0x0100, 0xEE#8), (0x0101, 0x80#8)] false with
        a := 0x01#8, flags := { cy := true, z := false, s := false, p := false, ac := false } }
      (fun t => t.a == 0x81#8 && t.flags.cy == false && t.flags.z == false && t.flags.s == true && t.flags.p == true &&
        t.pc == 0x0102#16) = true := by decide +kernel

/-- V60: ORA M (rule R150). -/
theorem test_v60_ora_m :
    stepGives { vecStart [(0x0100, 0xB6#8), (0x2000, 0x80#8)] false with
        a := 0x01#8, h := 0x20#8, l := 0x00#8, flags := { cy := true, z := false, s := false, p := false, ac := false } }
      (fun t => t.a == 0x81#8 && t.flags.cy == false && t.flags.z == false && t.flags.s == true && t.flags.p == true &&
        t.pc == 0x0101#16) = true := by decide +kernel

/-- V62: ORI 0x07 (rule R151). -/
theorem test_v62_ori_0x07 :
    stepGives { vecStart [(0x0100, 0xF6#8), (0x0101, 0x07#8)] false with a := 0x30#8 }
      (fun t => t.a == 0x37#8 && t.flags.cy == false && t.flags.z == false && t.flags.s == false && t.flags.p == false &&
        t.pc == 0x0102#16) = true := by decide +kernel

/-- V64: CMP B (rule R152). -/
theorem test_v64_cmp_b :
    stepGives { vecStart [(0x0100, 0xB8#8)] false with a := 0x05#8, b := 0x06#8 }
      (fun t => t.a == 0x05#8 && t.flags.cy == true && t.flags.z == false && t.flags.s == true && t.flags.p == true &&
        t.pc == 0x0101#16) = true := by decide +kernel

/-- V67: CPI 0x40 (rule R153). -/
theorem test_v67_cpi_0x40 :
    stepGives { vecStart [(0x0100, 0xFE#8), (0x0101, 0x40#8)] false with a := 0x3F#8 }
      (fun t => t.a == 0x3F#8 && t.flags.cy == true && t.flags.z == false && t.flags.s == true && t.flags.p == true &&
        t.pc == 0x0102#16) = true := by decide +kernel

/-- V69: INR B (rule R154). -/
theorem test_v69_inr_b :
    stepGives { vecStart [(0x0100, 0x04#8)] false with b := 0xFF#8 }
      (fun t => t.b == 0x00#8 && t.flags.cy == false && t.flags.z == true && t.flags.s == false && t.flags.p == true &&
        t.pc == 0x0101#16) = true := by decide +kernel

/-- V71: INR M (rule R154). -/
theorem test_v71_inr_m :
    stepGives { vecStart [(0x0100, 0x34#8), (0x2000, 0x0F#8)] false with h := 0x20#8, l := 0x00#8 }
      (fun t => t.flags.cy == false && t.flags.z == false && t.flags.s == false && t.flags.p == false &&
        t.pc == 0x0101#16 && t.readByte 0x2000#16 == 0x10#8) = true := by decide +kernel

/-- V73: DCR C (rule R155). -/
theorem test_v73_dcr_c :
    stepGives { vecStart [(0x0100, 0x0D#8)] false with
        c := 0x01#8, flags := { cy := true, z := false, s := false, p := false, ac := false } }
      (fun t => t.c == 0x00#8 && t.flags.cy == true && t.flags.z == true && t.flags.s == false && t.flags.p == true &&
        t.pc == 0x0101#16) = true := by decide +kernel

/-- V74: DCR M (rule R155). -/
theorem test_v74_dcr_m :
    stepGives { vecStart [(0x0100, 0x35#8), (0x2000, 0x80#8)] false with h := 0x20#8, l := 0x00#8 }
      (fun t => t.flags.cy == false && t.flags.z == false && t.flags.s == false && t.flags.p == false &&
        t.pc == 0x0101#16 && t.readByte 0x2000#16 == 0x7F#8) = true := by decide +kernel

/-- V75: INX B (rule R156). -/
theorem test_v75_inx_b :
    stepGives { vecStart [(0x0100, 0x03#8)] false with
        b := 0x00#8, c := 0xFF#8, flags := { cy := true, z := true, s := false, p := false, ac := false } }
      (fun t => t.b == 0x01#8 && t.c == 0x00#8 && t.flags.cy == true && t.flags.z == true && t.flags.s == false &&
        t.flags.p == false && t.pc == 0x0101#16) = true := by decide +kernel

/-- V77: INX SP (rule R156). -/
theorem test_v77_inx_sp :
    stepGives { vecStart [(0x0100, 0x33#8)] false with sp := 0xFFFF#16 }
      (fun t => t.flags.cy == false && t.flags.z == false && t.flags.s == false && t.flags.p == false &&
        t.sp == 0x0000#16 && t.pc == 0x0101#16) = true := by decide +kernel

/-- V78: DCX D (rule R157). -/
theorem test_v78_dcx_d :
    stepGives { vecStart [(0x0100, 0x1B#8)] false with d := 0x00#8, e := 0x00#8 }
      (fun t => t.d == 0xFF#8 && t.e == 0xFF#8 && t.flags.cy == false && t.flags.z == false && t.flags.s == false &&
        t.flags.p == false && t.pc == 0x0101#16) = true := by decide +kernel

/-- V79: DCX SP (rule R157). -/
theorem test_v79_dcx_sp :
    stepGives { vecStart [(0x0100, 0x3B#8)] false with sp := 0x0000#16 }
      (fun t => t.flags.cy == false && t.flags.z == false && t.flags.s == false && t.flags.p == false &&
        t.sp == 0xFFFF#16 && t.pc == 0x0101#16) = true := by decide +kernel

/-- V81: DAD B (rule R158). -/
theorem test_v81_dad_b :
    stepGives { vecStart [(0x0100, 0x09#8)] false with
        h := 0x12#8, l := 0x34#8, b := 0x11#8, c := 0x11#8, flags := { cy := true, z := true, s := true, p := true, ac := false } }
      (fun t => t.h == 0x23#8 && t.l == 0x45#8 && t.flags.cy == false && t.flags.z == true && t.flags.s == true &&
        t.flags.p == true && t.pc == 0x0101#16) = true := by decide +kernel

/-- V85: DAD SP (rule R158). -/
theorem test_v85_dad_sp :
    stepGives { vecStart [(0x0100, 0x39#8)] false with h := 0x00#8, l := 0x01#8, sp := 0xFFFF#16 }
      (fun t => t.l == 0x00#8 && t.flags.cy == true && t.flags.z == false && t.flags.s == false && t.flags.p == false &&
        t.pc == 0x0101#16) = true := by decide +kernel

/-- V90: RLC (rule R171). -/
theorem test_v90_rlc :
    stepGives { vecStart [(0x0100, 0x07#8)] false with
        a := 0x80#8, flags := { cy := false, z := true, s := true, p := true, ac := false } }
      (fun t => t.a == 0x01#8 && t.flags.cy == true && t.flags.z == true && t.flags.s == true && t.flags.p == true &&
        t.pc == 0x0101#16) = true := by decide +kernel

/-- V93: RRC (rule R172). -/
theorem test_v93_rrc :
    stepGives { vecStart [(0x0100, 0x0F#8)] false with
        a := 0xF2#8, flags := { cy := true, z := false, s := false, p := false, ac := false } }
      (fun t => t.a == 0x79#8 && t.flags.cy == false && t.flags.z == false && t.flags.s == false && t.flags.p == false &&
        t.pc == 0x0101#16) = true := by decide +kernel

/-- V95: RAL (rule R173). -/
theorem test_v95_ral :
    stepGives { vecStart [(0x0100, 0x17#8)] false with
        a := 0x40#8, flags := { cy := true, z := false, s := false, p := false, ac := false } }
      (fun t => t.a == 0x81#8 && t.flags.cy == false && t.flags.z == false && t.flags.s == false && t.flags.p == false &&
        t.pc == 0x0101#16) = true := by decide +kernel

/-- V97: RAR (rule R174). -/
theorem test_v97_rar :
    stepGives { vecStart [(0x0100, 0x1F#8)] false with
        a := 0x02#8, flags := { cy := true, z := false, s := false, p := false, ac := false } }
      (fun t => t.a == 0x81#8 && t.flags.cy == false && t.flags.z == false && t.flags.s == false && t.flags.p == false &&
        t.pc == 0x0101#16) = true := by decide +kernel

/-- V101: JMP 0x0000 (rule R182, rule R189). -/
theorem test_v101_jmp_0x0000 :
    stepGives (vecStart [(0x0100, 0xC3#8)] false)
      (fun t => t.exit == true && t.cause == .resetJump && t.info == some (.opcode 0xC3#8)) = true := by decide +kernel

/-- V103: JMP 0x0001 (rule R182). -/
theorem test_v103_jmp_0x0001 :
    stepGives (vecStart [(0x0100, 0xC3#8), (0x0101, 0x01#8)] false)
      (fun t => t.pc == 0x0001#16) = true := by decide +kernel

/-- V110: JNZ 0x2000 (rule R183). -/
theorem test_v110_jnz_0x2000 :
    stepGives (vecStart [(0x0100, 0xC2#8), (0x0102, 0x20#8)] false)
      (fun t => t.pc == 0x2000#16) = true := by decide +kernel

/-- V112: JZ 0x2000 (rule R183). -/
theorem test_v112_jz_0x2000 :
    stepGives { vecStart [(0x0100, 0xCA#8), (0x0102, 0x20#8)] false with
        flags := { cy := false, z := true, s := false, p := false, ac := false } }
      (fun t => t.pc == 0x2000#16) = true := by decide +kernel

/-- V114: JNC 0x2000 (rule R183). -/
theorem test_v114_jnc_0x2000 :
    stepGives (vecStart [(0x0100, 0xD2#8), (0x0102, 0x20#8)] false)
      (fun t => t.pc == 0x2000#16) = true := by decide +kernel

/-- V117: JC 0x2000 (rule R183). -/
theorem test_v117_jc_0x2000 :
    stepGives (vecStart [(0x0100, 0xDA#8), (0x0102, 0x20#8)] false)
      (fun t => t.pc == 0x0103#16) = true := by decide +kernel

/-- V118: JPO 0x2000 (rule R183). -/
theorem test_v118_jpo_0x2000 :
    stepGives (vecStart [(0x0100, 0xE2#8), (0x0102, 0x20#8)] false)
      (fun t => t.pc == 0x2000#16) = true := by decide +kernel

/-- V120: JPE 0x2000 (rule R183). -/
theorem test_v120_jpe_0x2000 :
    stepGives { vecStart [(0x0100, 0xEA#8), (0x0102, 0x20#8)] false with
        flags := { cy := false, z := false, s := false, p := true, ac := false } }
      (fun t => t.pc == 0x2000#16) = true := by decide +kernel

/-- V123: JP 0x2000 (rule R183). -/
theorem test_v123_jp_0x2000 :
    stepGives { vecStart [(0x0100, 0xF2#8), (0x0102, 0x20#8)] false with
        flags := { cy := false, z := false, s := true, p := false, ac := false } }
      (fun t => t.pc == 0x0103#16) = true := by decide +kernel

/-- V124: JM 0x2000 (rule R183). -/
theorem test_v124_jm_0x2000 :
    stepGives { vecStart [(0x0100, 0xFA#8), (0x0102, 0x20#8)] false with
        flags := { cy := false, z := false, s := true, p := false, ac := false } }
      (fun t => t.pc == 0x2000#16) = true := by decide +kernel

/-- V126: JZ 0x0000 (taken) (rule R183, rule R189). -/
theorem test_v126_jz_0x0000 :
    stepGives { vecStart [(0x0100, 0xCA#8)] false with
        flags := { cy := false, z := true, s := false, p := false, ac := false } }
      (fun t => t.exit == true && t.cause == .resetJump && t.info == some (.opcode 0xCA#8)) = true := by decide +kernel

/-- V127: JZ 0x0000 (not taken) (rule R183). -/
theorem test_v127_jz_0x0000 :
    stepGives (vecStart [(0x0100, 0xCA#8)] false)
      (fun t => t.pc == 0x0103#16) = true := by decide +kernel

/-- V130: CALL 0x3000 (rule R184). -/
theorem test_v130_call_0x3000 :
    stepGives (vecStart [(0x0100, 0xCD#8), (0x0102, 0x30#8), (0x23FE, 0xEE#8), (0x23FF, 0xEE#8)] false)
      (fun t => t.sp == 0x23FE#16 && t.pc == 0x3000#16 && t.readByte 0x23FE#16 == 0x03#8 && t.readByte 0x23FF#16 == 0x01#8)
      = true := by decide +kernel

/-- V131: CALL 0x0000 (no termination) (rule R184, rule R189). -/
theorem test_v131_call_0x0000 :
    stepGives (vecStart [(0x0100, 0xCD#8), (0x23FE, 0xEE#8), (0x23FF, 0xEE#8)] false)
      (fun t => t.sp == 0x23FE#16 && t.pc == 0x0000#16 && t.exit == false && t.readByte 0x23FE#16 == 0x03#8 &&
        t.readByte 0x23FF#16 == 0x01#8) = true := by decide +kernel

/-- V132: CALL 0x3000 with sp=0x0001 (rule R184). -/
theorem test_v132_call_0x3000 :
    stepGives { vecStart [(0x0100, 0xCD#8), (0x0102, 0x30#8)] false with sp := 0x0001#16 }
      (fun t => t.sp == 0xFFFF#16 && t.pc == 0x3000#16 && t.readByte 0x0000#16 == 0x01#8 && t.readByte 0xFFFF#16 == 0x03#8)
      = true := by decide +kernel

/-- V133: CC 0x3000 (taken) (rule R185). -/
theorem test_v133_cc_0x3000 :
    stepGives { vecStart [(0x0100, 0xDC#8), (0x0102, 0x30#8), (0x23FE, 0xEE#8), (0x23FF, 0xEE#8)] false with
        flags := { cy := true, z := false, s := false, p := false, ac := false } }
      (fun t => t.sp == 0x23FE#16 && t.pc == 0x3000#16 && t.readByte 0x23FE#16 == 0x03#8 && t.readByte 0x23FF#16 == 0x01#8)
      = true := by decide +kernel

/-- V135: CNZ 0x3000 (taken) (rule R185). -/
theorem test_v135_cnz_0x3000 :
    stepGives (vecStart [(0x0100, 0xC4#8), (0x0102, 0x30#8), (0x23FE, 0xEE#8), (0x23FF, 0xEE#8)] false)
      (fun t => t.sp == 0x23FE#16 && t.pc == 0x3000#16 && t.readByte 0x23FE#16 == 0x03#8 && t.readByte 0x23FF#16 == 0x01#8)
      = true := by decide +kernel

/-- V136: CZ 0x3000 (not taken) (rule R185). -/
theorem test_v136_cz_0x3000 :
    stepGives (vecStart [(0x0100, 0xCC#8), (0x0102, 0x30#8)] false)
      (fun t => t.pc == 0x0103#16) = true := by decide +kernel

/-- V137: CNC 0x3000 (not taken) (rule R185). -/
theorem test_v137_cnc_0x3000 :
    stepGives { vecStart [(0x0100, 0xD4#8), (0x0102, 0x30#8)] false with
        flags := { cy := true, z := false, s := false, p := false, ac := false } }
      (fun t => t.pc == 0x0103#16) = true := by decide +kernel

/-- V138: CPO 0x3000 (taken) (rule R185). -/
theorem test_v138_cpo_0x3000 :
    stepGives (vecStart [(0x0100, 0xE4#8), (0x0102, 0x30#8), (0x23FE, 0xEE#8), (0x23FF, 0xEE#8)] false)
      (fun t => t.sp == 0x23FE#16 && t.pc == 0x3000#16 && t.readByte 0x23FE#16 == 0x03#8 && t.readByte 0x23FF#16 == 0x01#8)
      = true := by decide +kernel

/-- V139: CPE 0x3000 (not taken) (rule R185). -/
theorem test_v139_cpe_0x3000 :
    stepGives (vecStart [(0x0100, 0xEC#8), (0x0102, 0x30#8)] false)
      (fun t => t.pc == 0x0103#16) = true := by decide +kernel

/-- V140: CP 0x3000 (taken) (rule R185). -/
theorem test_v140_cp_0x3000 :
    stepGives (vecStart [(0x0100, 0xF4#8), (0x0102, 0x30#8), (0x23FE, 0xEE#8), (0x23FF, 0xEE#8)] false)
      (fun t => t.sp == 0x23FE#16 && t.pc == 0x3000#16 && t.readByte 0x23FE#16 == 0x03#8 && t.readByte 0x23FF#16 == 0x01#8)
      = true := by decide +kernel

/-- V141: CM 0x3000 (taken) (rule R185). -/
theorem test_v141_cm_0x3000 :
    stepGives { vecStart [(0x0100, 0xFC#8), (0x0102, 0x30#8), (0x23FE, 0xEE#8), (0x23FF, 0xEE#8)] false with
        flags := { cy := false, z := false, s := true, p := false, ac := false } }
      (fun t => t.sp == 0x23FE#16 && t.pc == 0x3000#16 && t.readByte 0x23FE#16 == 0x03#8 && t.readByte 0x23FF#16 == 0x01#8)
      = true := by decide +kernel

/-- V142: RST 2 (rule R188). -/
theorem test_v142_rst_2 :
    stepGives (vecStart [(0x0100, 0xD7#8), (0x23FE, 0xEE#8), (0x23FF, 0xEE#8)] false)
      (fun t => t.sp == 0x23FE#16 && t.pc == 0x0010#16 && t.readByte 0x23FE#16 == 0x01#8 && t.readByte 0x23FF#16 == 0x01#8)
      = true := by decide +kernel

/-- V144: RST 7 at pc=0xFFFF (rule R188). -/
theorem test_v144_rst_7 :
    stepGives { vecStart [(0x23FE, 0xEE#8), (0x23FF, 0xEE#8), (0xFFFF, 0xFF#8)] false with pc := 0xFFFF#16 }
      (fun t => t.sp == 0x23FE#16 && t.pc == 0x0038#16 && t.readByte 0x23FE#16 == 0x00#8 && t.readByte 0x23FF#16 == 0x00#8)
      = true := by decide +kernel

/-- V148: RET with sp=0xFFFF (rule R186). -/
theorem test_v148_ret :
    stepGives { vecStart [(0x0000, 0x12#8), (0x0100, 0xC9#8), (0xFFFF, 0x34#8)] false with sp := 0xFFFF#16 }
      (fun t => t.sp == 0x0001#16 && t.pc == 0x1234#16) = true := by decide +kernel

/-- V149: RZ (taken) (rule R187). -/
theorem test_v149_rz :
    stepGives { vecStart [(0x0100, 0xC8#8), (0x23FE, 0x03#8), (0x23FF, 0x01#8)] false with
        sp := 0x23FE#16, flags := { cy := false, z := true, s := false, p := false, ac := false } }
      (fun t => t.sp == 0x2400#16 && t.pc == 0x0103#16) = true := by decide +kernel

/-- V151: RNZ (taken) (rule R187). -/
theorem test_v151_rnz :
    stepGives { vecStart [(0x0100, 0xC0#8), (0x23FE, 0x44#8), (0x23FF, 0x33#8)] false with sp := 0x23FE#16 }
      (fun t => t.sp == 0x2400#16 && t.pc == 0x3344#16) = true := by decide +kernel

/-- V152: RNC (not taken) (rule R187). -/
theorem test_v152_rnc :
    stepGives { vecStart [(0x0100, 0xD0#8)] false with
        sp := 0x23FE#16, flags := { cy := true, z := false, s := false, p := false, ac := false } }
      (fun t => t.pc == 0x0101#16) = true := by decide +kernel

/-- V153: RC (taken) (rule R187). -/
theorem test_v153_rc :
    stepGives { vecStart [(0x0100, 0xD8#8), (0x23FE, 0x44#8), (0x23FF, 0x33#8)] false with
        sp := 0x23FE#16, flags := { cy := true, z := false, s := false, p := false, ac := false } }
      (fun t => t.sp == 0x2400#16 && t.pc == 0x3344#16) = true := by decide +kernel

/-- V154: RPO (not taken) (rule R187). -/
theorem test_v154_rpo :
    stepGives { vecStart [(0x0100, 0xE0#8)] false with
        sp := 0x23FE#16, flags := { cy := false, z := false, s := false, p := true, ac := false } }
      (fun t => t.pc == 0x0101#16) = true := by decide +kernel

/-- V155: RPE (taken) (rule R187). -/
theorem test_v155_rpe :
    stepGives { vecStart [(0x0100, 0xE8#8), (0x23FE, 0x44#8), (0x23FF, 0x33#8)] false with
        sp := 0x23FE#16, flags := { cy := false, z := false, s := false, p := true, ac := false } }
      (fun t => t.sp == 0x2400#16 && t.pc == 0x3344#16) = true := by decide +kernel

/-- V156: RP (taken) (rule R187). -/
theorem test_v156_rp :
    stepGives { vecStart [(0x0100, 0xF0#8), (0x23FE, 0x44#8), (0x23FF, 0x33#8)] false with sp := 0x23FE#16 }
      (fun t => t.sp == 0x2400#16 && t.pc == 0x3344#16) = true := by decide +kernel

/-- V157: RM (not taken) (rule R187). -/
theorem test_v157_rm :
    stepGives { vecStart [(0x0100, 0xF8#8)] false with sp := 0x23FE#16 }
      (fun t => t.pc == 0x0101#16) = true := by decide +kernel

/-- V160: PUSH D (rule R195). -/
theorem test_v160_push_d :
    stepGives { vecStart [(0x0100, 0xD5#8)] false with d := 0xBE#8, e := 0xEF#8 }
      (fun t => t.sp == 0x23FE#16 && t.pc == 0x0101#16 && t.readByte 0x23FE#16 == 0xEF#8 && t.readByte 0x23FF#16 == 0xBE#8)
      = true := by decide +kernel

/-- V161: PUSH B with sp=0x0001 (rule R195). -/
theorem test_v161_push_b :
    stepGives { vecStart [(0x0100, 0xC5#8)] false with b := 0x12#8, c := 0x34#8, sp := 0x0001#16 }
      (fun t => t.sp == 0xFFFF#16 && t.pc == 0x0101#16 && t.readByte 0x0000#16 == 0x12#8 && t.readByte 0xFFFF#16 == 0x34#8)
      = true := by decide +kernel

/-- V162: PUSH H with sp=0x0101 (overwrites its own opcode byte after the fetch) (rule R195). -/
theorem test_v162_push_h :
    stepGives { vecStart [(0x0100, 0xE5#8)] false with h := 0xAA#8, l := 0x55#8, sp := 0x0101#16 }
      (fun t => t.sp == 0x00FF#16 && t.pc == 0x0101#16 && t.readByte 0x00FF#16 == 0x55#8 && t.readByte 0x0100#16 == 0xAA#8)
      = true := by decide +kernel

/-- V165: PUSH PSW (all flags 1) (rule R196). -/
theorem test_v165_push_psw :
    stepGives { vecStart [(0x0100, 0xF5#8), (0x23FE, 0xEE#8), (0x23FF, 0xEE#8)] false with
        a := 0x00#8, flags := { cy := true, z := true, s := true, p := true, ac := true } }
      (fun t => t.sp == 0x23FE#16 && t.pc == 0x0101#16 && t.readByte 0x23FE#16 == 0xD7#8 && t.readByte 0x23FF#16 == 0x00#8)
      = true := by decide +kernel

/-- V166: POP H (rule R197). -/
theorem test_v166_pop_h :
    stepGives { vecStart [(0x0100, 0xE1#8), (0x23FE, 0x78#8), (0x23FF, 0x56#8)] false with sp := 0x23FE#16 }
      (fun t => t.h == 0x56#8 && t.l == 0x78#8 && t.sp == 0x2400#16 && t.pc == 0x0101#16) = true := by decide +kernel

/-- V167: POP B with sp=0xFFFF (rule R197). -/
theorem test_v167_pop_b :
    stepGives { vecStart [(0x0000, 0x0B#8), (0x0100, 0xC1#8), (0xFFFF, 0x0C#8)] false with sp := 0xFFFF#16 }
      (fun t => t.b == 0x0B#8 && t.c == 0x0C#8 && t.sp == 0x0001#16 && t.pc == 0x0101#16) = true := by decide +kernel

/-- V168: POP D (rule R197). -/
theorem test_v168_pop_d :
    stepGives { vecStart [(0x0100, 0xD1#8), (0x23FE, 0xAD#8), (0x23FF, 0xDE#8)] false with sp := 0x23FE#16 }
      (fun t => t.d == 0xDE#8 && t.e == 0xAD#8 && t.sp == 0x2400#16 && t.pc == 0x0101#16) = true := by decide +kernel

/-- V170: POP PSW (bits 5, 3, 1 of the flag byte ignored) (rule R198). -/
theorem test_v170_pop_psw :
    stepGives { vecStart [(0x0100, 0xF1#8), (0x23FE, 0x28#8), (0x23FF, 0x01#8)] false with
        sp := 0x23FE#16, flags := { cy := true, z := true, s := true, p := true, ac := true } }
      (fun t => t.a == 0x01#8 && t.flags.cy == false && t.flags.z == false && t.flags.s == false && t.flags.p == false &&
        t.flags.ac == false && t.sp == 0x2400#16 && t.pc == 0x0101#16) = true := by decide +kernel

/-- V180: XCHG (rule R210). -/
theorem test_v180_xchg :
    stepGives { vecStart [(0x0100, 0xEB#8)] false with h := 0x11#8, l := 0x22#8, d := 0x33#8, e := 0x44#8 }
      (fun t => t.d == 0x11#8 && t.e == 0x22#8 && t.h == 0x33#8 && t.l == 0x44#8 && t.pc == 0x0101#16)
      = true := by decide +kernel

/-- V182: XTHL with sp=0xFFFF (rule R211). -/
theorem test_v182_xthl :
    stepGives { vecStart [(0x0000, 0xC3#8), (0x0100, 0xE3#8), (0xFFFF, 0xD4#8)] false with
        h := 0xA1#8, l := 0xB2#8, sp := 0xFFFF#16 }
      (fun t => t.h == 0xC3#8 && t.l == 0xD4#8 && t.sp == 0xFFFF#16 && t.pc == 0x0101#16 &&
        t.readByte 0x0000#16 == 0xA1#8 && t.readByte 0xFFFF#16 == 0xB2#8) = true := by decide +kernel

/-- V183: SPHL (rule R212). -/
theorem test_v183_sphl :
    stepGives { vecStart [(0x0100, 0xF9#8)] false with h := 0x43#8, l := 0x21#8 }
      (fun t => t.sp == 0x4321#16 && t.pc == 0x0101#16) = true := by decide +kernel

/-- V184: PCHL (rule R213). -/
theorem test_v184_pchl :
    stepGives { vecStart [(0x0100, 0xE9#8)] false with h := 0x43#8, l := 0x21#8 }
      (fun t => t.pc == 0x4321#16) = true := by decide +kernel

/-- V190: CMA (rule R220). -/
theorem test_v190_cma :
    stepGives { vecStart [(0x0100, 0x2F#8)] false with
        a := 0x5A#8, flags := { cy := true, z := true, s := false, p := false, ac := false } }
      (fun t => t.a == 0xA5#8 && t.flags.cy == true && t.flags.z == true && t.flags.s == false && t.flags.p == false &&
        t.pc == 0x0101#16) = true := by decide +kernel

/-- V192: CMC (rule R221). -/
theorem test_v192_cmc :
    stepGives (vecStart [(0x0100, 0x3F#8)] false)
      (fun t => t.flags.cy == true && t.flags.z == false && t.flags.s == false && t.flags.p == false && t.pc == 0x0101#16)
      = true := by decide +kernel

/-- V195: STC (rule R222). -/
theorem test_v195_stc :
    stepGives { vecStart [(0x0100, 0x37#8)] false with
        flags := { cy := true, z := false, s := false, p := false, ac := false } }
      (fun t => t.flags.cy == true && t.flags.z == false && t.flags.s == false && t.flags.p == false && t.pc == 0x0101#16)
      = true := by decide +kernel

/-- V196: EI (rule R225). -/
theorem test_v196_ei :
    stepGives { vecStart [(0x0100, 0xFB#8)] false with inte := false }
      (fun t => t.pc == 0x0101#16 && t.inte == true) = true := by decide +kernel

/-- V198: DI (rule R226). -/
theorem test_v198_di :
    stepGives { vecStart [(0x0100, 0xF3#8)] false with inte := true }
      (fun t => t.pc == 0x0101#16 && t.inte == false) = true := by decide +kernel

/-- V200: HLT (rule R227). -/
theorem test_v200_hlt :
    stepGives { vecStart [(0x0100, 0x76#8)] false with inte := false }
      (fun t => t.pc == 0x0101#16 && t.inte == false && t.exit == false) = true := by decide +kernel

/-- V203: NOP at pc=0xFFFF (rule R228). -/
theorem test_v203_nop :
    stepGives { vecStart [] false with pc := 0xFFFF#16 }
      (fun t => t.pc == 0x0000#16) = true := by decide +kernel

/-- V210: (undefined byte 0x08) (rule R93, rule R274). -/
theorem test_v210_undefined_08 :
    stepGives { vecStart [(0x0100, 0x08#8)] false with a := 0x11#8, sp := 0x2400#16 }
      (fun t => t.sp == 0x2400#16 && t.exit == true && t.cause == .unsupportedOpcode && t.info == some (.opcode 0x08#8))
      = true := by decide +kernel

/-- V217: (undefined byte 0xCB) (rule R93, rule R274). -/
theorem test_v217_undefined_cb :
    stepGives { vecStart [(0x0100, 0xCB#8)] false with a := 0x11#8, sp := 0x2400#16 }
      (fun t => t.sp == 0x2400#16 && t.exit == true && t.cause == .unsupportedOpcode && t.info == some (.opcode 0xCB#8))
      = true := by decide +kernel

/-- V231: IN 1 (rule R245). -/
theorem test_v231_in_1 :
    stepGives { vecStart [(0x0100, 0xDB#8), (0x0101, 0x01#8)] false with
        ports := (Vector.replicate 8 0#8).set 1 0x81#8 }
      (fun t => t.a == 0x81#8 && t.pc == 0x0102#16) = true := by decide +kernel

/-- V232: IN 2 (rule R245). -/
theorem test_v232_in_2 :
    stepGives { vecStart [(0x0100, 0xDB#8), (0x0101, 0x02#8)] false with
        ports := (Vector.replicate 8 0#8).set 2 0x0B#8, flags := { cy := true, z := true, s := false, p := false, ac := false } }
      (fun t => t.a == 0x0B#8 && t.flags.cy == true && t.flags.z == true && t.flags.s == false && t.flags.p == false &&
        t.pc == 0x0102#16) = true := by decide +kernel

/-- V234: IN 3 (rule R245, rule R248). -/
theorem test_v234_in_3 :
    stepGives { vecStart [(0x0100, 0xDB#8), (0x0101, 0x03#8)] false with
        a := 0xEE#8, shHi := 0xA5#8, shLo := 0x3C#8, shOff := 1#3 }
      (fun t => t.a == 0x4A#8 && t.pc == 0x0102#16) = true := by decide +kernel

/-- V240: IN 3 (rule R245, rule R248). -/
theorem test_v240_in_3 :
    stepGives { vecStart [(0x0100, 0xDB#8), (0x0101, 0x03#8)] false with
        a := 0xEE#8, shHi := 0xA5#8, shLo := 0x3C#8, shOff := 7#3 }
      (fun t => t.a == 0x9E#8 && t.pc == 0x0102#16) = true := by decide +kernel

/-- V241: OUT 2 (rule R250, rule R246). -/
theorem test_v241_out_2 :
    stepGives { vecStart [(0x0100, 0xD3#8), (0x0101, 0x02#8)] false with
        a := 0xFC#8, ports := (Vector.replicate 8 0#8).set 2 0x33#8 }
      (fun t => t.pc == 0x0102#16 && t.shOff == 4#3) = true := by decide +kernel

/-- V243: OUT 4 (rule R250, rule R247). -/
theorem test_v243_out_4 :
    stepGives { vecStart [(0x0100, 0xD3#8), (0x0101, 0x04#8)] false with
        a := 0xAA#8, shHi := 0x12#8, shLo := 0x34#8, shOff := 3#3 }
      (fun t => t.pc == 0x0102#16 && t.shHi == 0xAA#8 && t.shLo == 0x12#8) = true := by decide +kernel

/-- V244: OUT 3 (rule R250, rule R249). -/
theorem test_v244_out_3 :
    stepGives { vecStart [(0x0100, 0xD3#8), (0x0101, 0x03#8)] false with
        a := 0xFF#8, ports := (Vector.replicate 8 0#8).set 3 0x10#8 }
      (fun t => t.pc == 0x0102#16) = true := by decide +kernel

/-- V247: OUT 0 (rule R250, rule R244, rule R275). -/
theorem test_v247_out_0 :
    stepGives { vecStart [(0x0100, 0xD3#8)] false with a := 0x01#8 }
      (fun t => t.exit == true && t.cause == .unsupportedOpcode && t.info == some (.port .output 0#8))
      = true := by decide +kernel

/-- V249: OUT 7 (rule R250, rule R244, rule R275). -/
theorem test_v249_out_7 :
    stepGives { vecStart [(0x0100, 0xD3#8), (0x0101, 0x07#8)] false with a := 0x01#8 }
      (fun t => t.exit == true && t.cause == .unsupportedOpcode && t.info == some (.port .output 7#8))
      = true := by decide +kernel

/-- V251: IN 4 (rule R245, rule R244, rule R275). -/
theorem test_v251_in_4 :
    stepGives { vecStart [(0x0100, 0xDB#8), (0x0101, 0x04#8)] false with a := 0x01#8 }
      (fun t => t.exit == true && t.cause == .unsupportedOpcode && t.info == some (.port .input 4#8))
      = true := by decide +kernel

/-- V260: CALL 0x0005, DIAG_ENABLED=true, C=0x09 (rule R256, rule R257). -/
theorem test_v260_call_0x0005 :
    stepGives { vecStart [(0x0100, 0xCD#8), (0x0101, 0x05#8), (0x0300, 0x48#8), (0x0301, 0x49#8), (0x0302, 0x24#8), (0x0303, 0x58#8)] true with
        c := 0x09#8, d := 0x03#8, e := 0x00#8 }
      (fun t => t.sp == 0x2400#16 && t.pc == 0x0103#16 && t.diag == [0x48#8, 0x49#8]) = true := by decide +kernel

/-- V262: CALL 0x0005, DIAG_ENABLED=true, C=0x02 (rule R256, rule R258). -/
theorem test_v262_call_0x0005 :
    stepGives { vecStart [(0x0100, 0xCD#8), (0x0101, 0x05#8)] true with c := 0x02#8, e := 0x41#8 }
      (fun t => t.sp == 0x2400#16 && t.pc == 0x0103#16 && t.diag == [0x41#8]) = true := by decide +kernel

/-- V264: CALL 0x0005, DIAG_ENABLED=true, C=0x00 (rule R259). -/
theorem test_v264_call_0x0005 :
    stepGives { vecStart [(0x0100, 0xCD#8), (0x0101, 0x05#8)] true with c := 0x00#8, e := 0x41#8 }
      (fun t => t.sp == 0x2400#16 && t.pc == 0x0103#16 && t.diag == []) = true := by decide +kernel

/-- V265: CALL 0x0005, DIAG_ENABLED=false, C=0x02 (rule R255, rule R184). -/
theorem test_v265_call_0x0005 :
    stepGives { vecStart [(0x0100, 0xCD#8), (0x0101, 0x05#8), (0x23FE, 0xEE#8), (0x23FF, 0xEE#8)] false with
        c := 0x02#8, e := 0x41#8 }
      (fun t => t.sp == 0x23FE#16 && t.pc == 0x0005#16 && t.diag == [] && t.readByte 0x23FE#16 == 0x03#8 &&
        t.readByte 0x23FF#16 == 0x01#8) = true := by decide +kernel

/-- V269: string selector crossing 0xFFFF (rule R257). -/
theorem test_v269_string_selector_crossing :
    stepGives { vecStart [(0x0000, 0x42#8), (0x0001, 0x24#8), (0x0100, 0xCD#8), (0x0101, 0x05#8), (0xFFFF, 0x41#8)] true with
        c := 0x09#8, d := 0xFF#8, e := 0xFF#8 }
      (fun t => t.pc == 0x0103#16 && t.diag == [0x41#8, 0x42#8]) = true := by decide +kernel

/-- V281: interrupt, enabled, first (rule R282). -/
theorem test_v281_interrupt :
    (fun t : State => t.sp == 0x23FE#16 && t.pc == 0x0008#16 && t.inte == false && t.ivsel == true &&
        t.readByte 0x23FE#16 == 0x34#8 && t.readByte 0x23FF#16 == 0x12#8)
      (State.interrupt { vecStart [(0x23FE, 0xEE#8), (0x23FF, 0xEE#8)] false with inte := true, pc := 0x1234#16, ivsel := false })
      = true := by decide +kernel

/-- V282: interrupt, enabled, selector at second vector (rule R282). -/
theorem test_v282_interrupt :
    (fun t : State => t.sp == 0x23FE#16 && t.pc == 0x0010#16 && t.inte == false && t.ivsel == false &&
        t.readByte 0x23FE#16 == 0xBC#8 && t.readByte 0x23FF#16 == 0x0A#8)
      (State.interrupt { vecStart [(0x23FE, 0xEE#8), (0x23FF, 0xEE#8)] false with inte := true, pc := 0x0ABC#16, ivsel := true })
      = true := by decide +kernel

/-- V286: interrupt, enabled, sp=0x0001 (rule R282). -/
theorem test_v286_interrupt :
    (fun t : State => t.sp == 0xFFFF#16 && t.pc == 0x0008#16 && t.inte == false && t.ivsel == true &&
        t.readByte 0x0000#16 == 0xBE#8 && t.readByte 0xFFFF#16 == 0xEF#8)
      (State.interrupt { vecStart [] false with inte := true, pc := 0xBEEF#16, sp := 0x0001#16 })
      = true := by decide +kernel

/-- V284: interrupt, masked, selector at second vector (rule R283). -/
theorem test_v284_interrupt :
    State.interrupt { vecStart [] false with inte := false, pc := 0x1234#16, ivsel := true }
      = { vecStart [] false with inte := false, pc := 0x1234#16, ivsel := true } := by decide +kernel

/-- V285: interrupt with exit=1 (rule R281). -/
theorem test_v285_interrupt :
    State.interrupt { vecStart [] false with inte := true, pc := 0x1234#16, exit := true, cause := .resetJump }
      = { vecStart [] false with inte := true, pc := 0x1234#16, exit := true, cause := .resetJump } := by decide +kernel

/-- DAA is recognised, advances `pc` by 1 and leaves the other registers (rule R223). -/
theorem test_daa_frame :
    stepGives { vecStart [(0x0100, 0x27#8)] false with b := 0x77#8 } (fun t => t.pc == 0x0101#16 && t.b == 0x77#8 && t.sp == 0x2400#16)
      = true := by
  decide +kernel

/-- V222: no step in a state whose run has ended (rule R13). -/
theorem test_v222_no_step_after_exit :
    step { vecStart [(0x0100, 0x3C#8)] false with exit := true, cause := .unsupportedOpcode } = .fault .runOver := by rfl

/-! ### From reset, and a placed word -/

/-- From reset with nothing placed the first instruction is the NOP that unlisted memory reads as (log entries 2, 12). -/
theorem test_reset_first_step : stepGives State.reset (fun t => t.pc == 0x0001#16 && t.started) = true := by decide +kernel

/-- `withFetchWord` places STA 0x0100, and the next step stores A there (rule R120). -/
theorem test_placed_word_runs :
    stepGives (State.withFetchWord { State.reset with a := 0x5A#8 } 24 0x010032)
      (fun t => t.pc == 0x0003#16 && t.readByte 0x0100#16 == 0x5A#8) = true := by
  decide +kernel

/-- The decoder reads a word of spec/opcode_table.json: 0x3E is MVI A (rule R88). -/
theorem test_table_word : decodeTableWord 16 0x423E = some (.mviA 0x42#8) := by decide +kernel

/-! ### Witnesses: for every obligation with hypotheses, a state and operands that meet them

`base` is a state in the middle of a run: distinct registers, the stack at the top of memory, interrupts enabled. -/

/-- A state in the middle of a run. -/
def base : State :=
  { vecStart [(0x0100, 0x78#8)] true with
    a := 0x81#8, b := 0x12#8, c := 0x02#8, d := 0xAB#8, e := 0xCD#8, h := 0xFF#8, l := 0xFF#8, sp := 0x0001#16, inte := true }

/-- `base` with its run ended. -/
def ended : State := { base with exit := true, cause := .resetJump, info := some (.opcode 0xC3#8) }

/-- Hypothesis of DecodeOfEncodedInstruction, at a checked constructor and at a plain one. -/
theorem witness_decodeOfEncoded : Instr.wf (.undefinedOp 0x08#8) = true ∧ Instr.wf (.lxiSp 0xFFFF#16) = true := by decide

/-- Hypothesis of the third clause of EncodeOfDecodedBytes, at an opcode of each length. -/
theorem witness_encodeOfDecoded :
    0xFC#8 ∉ Config.undefinedOpcodes ∧ 0x06#8 ∉ Config.undefinedOpcodes ∧ 0xFF#8 ∉ Config.undefinedOpcodes := by decide

/-- Hypotheses of StepRunsFetchedInstruction, with the bytes going round 0xFFFF. -/
theorem witness_stepRuns :
    let s : State := { vecStart [(0x0000, 0x12#8), (0xFFFE, 0xC3#8), (0xFFFF, 0x34#8)] false with pc := 0xFFFE#16 }
    s.exit = false ∧ s.coresTurn = true ∧
      decodeBytes [s.readByte s.pc, s.readByte (s.pc + 1#16), s.readByte (s.pc + 2#16)] = .ok (.jmp 0x1234#16, []) ∧
      Instr.wf (.jmp 0x1234#16) = true := by
  exact ⟨rfl, rfl, rfl, rfl⟩

/-- Hypotheses of both clauses of NothingRunsAfterExit. -/
theorem witness_afterExit :
    (ended.exit = true ∧ ended.coresTurn = true) ∧
    (({ ended with sched := [.interrupt] } : State).exit = true ∧
      ({ ended with sched := [.interrupt] } : State).sched = .interrupt :: []) := by
  exact ⟨⟨rfl, rfl⟩, rfl, rfl⟩

/-- Hypotheses of EveryStepKeepsInvariant: the state after reset, and a state with stored bytes and a host turn. -/
theorem witness_invariant :
    (State.reset.Inv ∧ stepGives State.reset (fun _ => true) = true) ∧
    (({ base with sched := [.interrupt] } : State).Inv ∧ stepGives { base with sched := [.interrupt] } (fun _ => true) = true) := by
  refine ⟨⟨⟨rfl, by decide, rfl, fun _ => rfl⟩, by decide +kernel⟩,
    ⟨⟨by decide +kernel, by decide, rfl, fun _ => rfl⟩, by decide +kernel⟩⟩

/-- Hypotheses of DiagAppendOnlyAndExitSticky: a step with a next state, and one from a state whose run has ended. -/
theorem witness_diagAppend :
    stepGives base (fun _ => true) = true ∧
    (ended.exit = true ∧ stepGives { ended with sched := [.writePort 1 0x80#8] } (fun _ => true) = true) := by
  exact ⟨by decide +kernel, rfl, by decide +kernel⟩

/-- Hypothesis of the word-by-word clause of SampleWordsDecode, at the first and the last word and at a 3-byte one. -/
theorem witness_opcodeWords :
    ([0x00#8], .nop) ∈ opcodeWords 0x34#8 0x12#8 ∧ ([0xCD#8, 0x34#8, 0x12#8], .call 0x1234#16) ∈ opcodeWords 0x34#8 0x12#8 ∧
      ([0xFF#8], .rst7) ∈ opcodeWords 0x34#8 0x12#8 := by
  decide +kernel

/-- Hypotheses of the register clauses of OperandForms. -/
theorem witness_operandForms : R8.a ≠ .m ∧ R8.l ≠ .m ∧ R8.l ≠ .a ∧ RP.sp ≠ .bc := by decide

/-- Hypotheses of MoveToRegister, from memory into half of the address. -/
theorem witness_moveToRegister :
    R8.h ≠ .m ∧ (match exec (.ofMov .h .m) base with | .next t => t.pc == 0x0101#16 | _ => false) = true := by
  exact ⟨by decide, by decide +kernel⟩

/-- Hypotheses of MoveToMemory. -/
theorem witness_moveToMemory : R8.l ≠ .m ∧ Instr.ofMov .m .l = .movML := by decide

/-- Hypotheses of MoveImmediate. -/
theorem witness_moveImmediate : R8.a ≠ .m ∧ R8.b ≠ .m ∧ R8.b ≠ .a := by decide

/-- Hypotheses of the frames in LoadPairImmediate and IncrementDecrementPair. -/
theorem witness_otherPair : RP.sp ≠ .hl ∧ RP.bc ≠ .sp := by decide

/-- Hypotheses of the frames in IncrementDecrementByte: another register, and a byte away from HL. -/
theorem witness_otherByte :
    R8.a ≠ .m ∧ R8.a ≠ .m ∧ ¬(R8.m = .m ∧ (0x0000#16 : Word) = base.hl) ∧ ¬(R8.b = .m ∧ base.hl = base.hl) := by decide

/-- Both branches of JumpResult and all three of ConditionalJumpResult and two of the other conditional transfers are met. -/
theorem witness_conditions :
    (0x0000#16 : Word) = 0x0000#16 ∧ (0x0001#16 : Word) ≠ 0x0000#16 ∧ condHolds .nz base.flags = true ∧
      ¬condHolds .z base.flags = true := by
  decide

/-- Hypotheses of CallResult and CallReturnRoundTrip: the mode off at the trap address, and the mode on beside it. -/
theorem witness_call :
    ((vecStart [] false).diagEnabled = false ∨ (0x0005#16 : Word) ≠ 0x0005#16) ∧
    (base.diagEnabled = true ∧ (base.diagEnabled = false ∨ (0x0006#16 : Word) ≠ 0x0005#16)) := by decide

/-- Hypotheses of the selector clauses of DiagnosticIntercept. -/
theorem witness_diagSelectors :
    base.diagEnabled = true ∧ base.c = 0x02#8 ∧ ({ base with c := 0x00#8 } : State).c ≠ 0x02#8 ∧
      ({ base with c := 0x00#8 } : State).c ≠ 0x09#8 := by
  decide

/-- Hypotheses of the string clause of DiagnosticIntercept: the sentinel at once, and after one byte across 0xFFFF. -/
theorem witness_diagString :
    let s : State := { vecStart [(0x0000, 0x24#8), (0xFFFF, 0x41#8)] true with c := 0x09#8, d := 0xFF#8, e := 0xFF#8 }
    s.diagEnabled = true ∧ s.c = 0x09#8 ∧
      s.readByte (s.de + BitVec.ofNat 16 1) = 0x24#8 ∧ (∀ k, k < 1 → s.readByte (s.de + BitVec.ofNat 16 k) ≠ 0x24#8) ∧
      ({ s with d := 0x00#8, e := 0x00#8 } : State).readByte
        (({ s with d := 0x00#8, e := 0x00#8 } : State).de + BitVec.ofNat 16 0) = 0x24#8 := by
  refine ⟨rfl, rfl, by decide +kernel, fun k hk => ?_, by decide +kernel⟩
  obtain rfl : k = 0 := by omega
  decide +kernel

/-- Hypotheses of the string clause of DiagnosticIntercept at the greatest distance: the one sentinel is the byte before DE. -/
theorem witness_diagStringLongest :
    let s : State := { vecStart [(0x0000, 0x24#8)] true with c := 0x09#8, e := 0x01#8 }
    s.readByte (s.de + BitVec.ofNat 16 65535) = 0x24#8 ∧
      (∀ k, k < 65535 → s.readByte (s.de + BitVec.ofNat 16 k) ≠ 0x24#8) := by
  refine ⟨by decide +kernel, fun k hk => ?_⟩
  have h : ((0x0001#16 : Word) + BitVec.ofNat 16 k).toNat ≠ 0 := by
    rw [BitVec.toNat_add, BitVec.toNat_ofNat, BitVec.toNat_ofNat]; omega
  show Memory.read [(0x0000, 0x24#8)] ((0x0001#16 : Word) + BitVec.ofNat 16 k).toNat ≠ 0x24#8
  rw [Memory.read, if_neg (Ne.symm h), Memory.read]
  decide

/-- Hypotheses of the refused clause of DiagnosticIntercept: a memory with no sentinel. -/
theorem witness_diagUnterminated :
    let s : State := { vecStart [] true with c := 0x09#8 }
    s.diagEnabled = true ∧ s.c = 0x09#8 ∧ ∀ x, s.readByte x ≠ 0x24#8 :=
  ⟨rfl, rfl, fun _ => (by decide : Config.memInit ≠ 0x24#8)⟩

/-- Hypotheses of the last clause of DecimalAdjust: two states that agree on A and the flags. -/
theorem witness_decimalAdjust : ended.a = base.a ∧ ended.flags = base.flags := ⟨rfl, rfl⟩

/-- Hypothesis of the interrupt clause of InterruptEnableDisable. -/
theorem witness_enableInterrupt : base.exit = false := rfl

/-- Hypotheses of the unmapped clauses of InputResult and OutputResult, at the ends of their ranges. -/
theorem witness_unmappedPorts :
    4 ≤ (0x04#8 : Byte).toNat ∧ 4 ≤ (0xFF#8 : Byte).toNat ∧ ((0x01#8 : Byte).toNat < 2 ∨ 6 < (0x01#8 : Byte).toNat) ∧
    ((0x07#8 : Byte).toNat < 2 ∨ 6 < (0x07#8 : Byte).toNat) := by decide

/-- Hypotheses of the accepted clause of OutputResult. -/
theorem witness_acceptedPorts : (0x06#8 : Byte) = 3#8 ∨ (0x06#8 : Byte) = 5#8 ∨ (0x06#8 : Byte) = 6#8 := by decide

/-- Hypothesis of UndefinedOpcodeEndsRun, at the first and the last byte of the set. -/
theorem witness_undefinedOpcode :
    0x08#8 ∈ [0x08#8, 0x10#8, 0x18#8, 0x20#8, 0x28#8, 0x30#8, 0x38#8, 0xCB#8, 0xD9#8, 0xDD#8, 0xED#8, 0xFD#8] ∧
    0xFD#8 ∈ [0x08#8, 0x10#8, 0x18#8, 0x20#8, 0x28#8, 0x30#8, 0x38#8, 0xCB#8, 0xD9#8, 0xDD#8, 0xED#8, 0xFD#8] := by decide

/-- Hypotheses of both clauses of InterruptController. -/
theorem witness_interrupt : State.reset.inte = false ∧ base.exit = false ∧ base.inte = true := by decide

/-- Hypotheses of InterruptVectorsAlternate: the state after the first entry with interrupts enabled again. -/
theorem witness_alternate :
    base.exit = false ∧ base.inte = true ∧ ({ base.interrupt with inte := true } : State).exit = false ∧
    ({ base.interrupt with inte := true } : State).inte = true ∧ ({ base.interrupt with inte := true } : State).ivsel = base.interrupt.ivsel := by
  decide +kernel

/-- Hypotheses of every clause of HostTurns; the port write is met after the end of the run too (log entry 31), the loads end exactly at 65,536, one byte past it, and come after the first step. -/
theorem witness_hostTurns :
    ({ base with sched := [.interrupt, .core] } : State).sched = .interrupt :: [.core] ∧
    ({ base with sched := [.writePort 7 0xFF#8] } : State).sched = .writePort 7 0xFF#8 :: [] ∧
    (({ ended with sched := [.writePort 0 0x80#8] } : State).sched = .writePort 0 0x80#8 :: [] ∧ ended.exit = true) ∧
    (({ base with sched := [.load 0xFFFF [0x11#8]] } : State).started = false ∧ 0xFFFF + [0x11#8].length ≤ 65536) ∧
    ¬0xFFFF + [0x11#8, 0x22#8].length ≤ 65536 ∧
    (({ base with sched := [.load 0 []], started := true } : State).sched = .load 0 [] :: [] ∧
      ({ base with sched := [.load 0 []], started := true } : State).started = true) := by
  refine ⟨rfl, rfl, ⟨rfl, rfl⟩, ⟨rfl, by decide⟩, by decide, rfl, rfl⟩

/-- Hypotheses of the frames (MemoryFrame, RegisterFrame, FlagFrame, ControlAndPeripheralFrame): a store has a next state, and there is
a byte it does not store to, a register and a flag it does not write. -/
theorem witness_frames :
    (match exec (.shld 0xFFFF#16) base with | .next t => t.pc == 0x0103#16 | _ => false) = true ∧
    0x0001#16 ∉ instrStores (.shld 0xFFFF#16) base ∧ R8.a ≠ .m ∧ R8.a ∉ instrRegWrites (.shld 0xFFFF#16) ∧
    instrWritesSp (.shld 0xFFFF#16) = false ∧ (instrFlagWrites (.dadB)).z = false ∧ Instr.shld 0xFFFF#16 ≠ .ei := by
  refine ⟨by decide +kernel, by decide +kernel, by decide, by decide, rfl, rfl, by decide⟩

/-- Both cases of OnlyTheseEndTheRun are met: a step that goes on, and one that ends the run. -/
theorem witness_ends :
    (match exec .nop base with | .next t => !t.exit | _ => false) = true ∧
    (match exec (.jmp 0x0000#16) base with | .next t => t.exit | _ => false) = true := by decide +kernel

/-- Hypotheses of PushPopRoundTrip and StackPushThenPop are none; at `sp` 0x0001 the two bytes are 0x0000 and 0xFFFF. -/
theorem witness_pushWraps : base.pushAddrs = [0x0000#16, 0xFFFF#16] := by decide +kernel

end Sys2Proof.Tests
end

section
/-! The pair views of rule R21 and their halves (rule R22). The arithmetic of the halves is in the laws `toNat_mkWord`, `toNat_hiByte`
and `toNat_loByte`; what is needed besides them is which halves a view is made of after both were written. -/

namespace Sys2Proof.Machine

theorem bc_set8_b_set8_c (s : State) (h l : Byte) : ((s.set8 .b h).set8 .c l).bc = mkWord h l := by
  simp only [State.bc, State.set8]

theorem de_set8_d_set8_e (s : State) (h l : Byte) : ((s.set8 .d h).set8 .e l).de = mkWord h l := by
  simp only [State.de, State.set8]

theorem hl_set8_h_set8_l (s : State) (h l : Byte) : ((s.set8 .h h).set8 .l l).hl = mkWord h l := by
  simp only [State.hl, State.set8]

/-- Settles O10: a pair view is `mkWord` of its halves, and writing a view writes `hiByte` and `loByte` to them; the rest is the value
of those three as numbers. -/
theorem pairHalvesRoundTrip : Obligations.PairHalvesRoundTrip := by
  intro s h l v
  have whole := toNat_mkWord h l
  have high := toNat_hiByte v
  have low := toNat_loByte v
  refine ⟨⟨?_, ?_, ?_⟩, ⟨?_, ?_⟩, ⟨?_, ?_⟩, ?_, ?_⟩
  · rw [bc_set8_b_set8_c, whole]
  · rw [de_set8_d_set8_e, whole]
  · rw [hl_set8_h_set8_l, whole]
  · rw [setBc_b, high]
  · rw [setBc_c, low]
  · rw [setDe_d, high]
  · rw [setDe_e, low]
  · rw [setHl_h, high]
  · rw [setHl_l, low]

end Sys2Proof.Machine
end

section
/-! The moves of 40_data_transfer.md: an instruction that writes one operand (`set8`) or one byte of memory (`writeByte`) and advances
`pc`. What such a turn changes and what it keeps is said once, for every operand and every length; the rules below use it. -/

namespace Sys2Proof.Machine

@[simp] theorem get8_advance (s : State) (r : R8) (n : Word) : (s.advance n).get8 r = s.get8 r := by
  cases r <;> rfl

/-- The operand `M` of rule R84 is the byte at HL. -/
theorem get8_eq_ite (s : State) (r : R8) : s.get8 r = if r = .m then s.readByte s.hl else s.get8 r := by
  split
  next h => rw [h, State.get8]
  next => rfl

theorem onlyRegsPc_set8_advance (s : State) {r : R8} (v : Byte) (n : Word) (h : r ≠ .m) :
    s.onlyRegsPc ((s.set8 r v).advance n) := by
  cases r
  case m => exact absurd rfl h
  all_goals rfl

theorem set8_a_advance (s : State) (v : Byte) (n : Word) :
    (s.set8 .a v).advance n = { s with a := v, pc := s.pc + n } := rfl

/-- Everything a one-byte store does (rules R113, R120, R122). -/
theorem writeByte_advance_stores (s : State) (addr : Word) (v : Byte) (n : Word) :
    (∀ x, ((s.writeByte addr v).advance n).readByte x = if x = addr then v else s.readByte x) ∧
      (s.writeByte addr v).advance n = { s with mem := ((s.writeByte addr v).advance n).mem, pc := s.pc + n } :=
  ⟨fun x => by rw [readByte_advance, readByte_writeByte], rfl⟩

/-- Settles O17: the value moved is the operand of the state before, so that for MOV H,M and MOV L,M the address is the old HL. -/
theorem moveToRegister : Obligations.MoveToRegister := by
  intro s dst src hdst
  refine ⟨s.mov dst src, exec_ofMov s fun h => hdst h.1, ?_, fun r hr hne => ?_, ?_, ?_⟩
  · rw [State.mov, get8_advance, get8_set8 s _ hdst]
    exact get8_eq_ite s src
  · rw [State.mov, get8_advance, get8_set8_other s _ hr hne]
  · rw [State.mov, advance_pc, set8_pc]
  · exact onlyRegsPc_set8_advance s (s.get8 src) 1#16 hdst

/-- Settles O18: MOV M,r is the one-byte store of the register at HL. -/
theorem moveToMemory : Obligations.MoveToMemory := by
  intro s src hsrc
  exact ⟨s.mov .m src, exec_ofMov s fun h => hsrc h.2, writeByte_advance_stores s s.hl (s.get8 src) 1#16⟩

/-- Settles O21: LDA and LDAX write A with the byte at the operand, BC or DE. -/
theorem loadAccumulator : Obligations.LoadAccumulator := by
  intro s w
  exact ⟨congrArg Host.Outcome.next (set8_a_advance s (s.readByte w) 3#16),
    congrArg Host.Outcome.next (set8_a_advance s (s.readByte s.bc) 1#16),
    congrArg Host.Outcome.next (set8_a_advance s (s.readByte s.de) 1#16)⟩

/-- Settles O22: STA and STAX are the one-byte store of A at the operand, BC or DE. -/
theorem storeAccumulator : Obligations.StoreAccumulator := by
  intro s w
  exact ⟨⟨(s.writeByte w s.a).advance 3#16, rfl, writeByte_advance_stores s w s.a 3#16⟩,
    ⟨s.stax .bc, rfl, writeByte_advance_stores s s.bc s.a 1#16⟩,
    ⟨s.stax .de, rfl, writeByte_advance_stores s s.de s.a 1#16⟩⟩

end Sys2Proof.Machine
end

section
/-! Addition, the logical operations and the 16-bit steps of 41_arithmetic_logic.md. `alu_outcome` says what every ALU operation but
compare does in terms of its widened intermediate `w` (rule R130); what is needed besides it is the number `w` is. -/

namespace Sys2Proof.Machine

/-! ### The widened intermediate as a number -/

theorem toNat_carryIn (cy : Bool) : (carryIn cy).toNat = cy.toNat := by cases cy <;> rfl

/-- The sum of two bytes does not reach 2^16, so that `w` is the sum itself. -/
theorem toNat_aluWide_add (x y : Byte) (cy : Bool) : (aluWide .add x y cy).toNat = x.toNat + y.toNat := by
  simp only [aluWide]
  bv_omega

theorem toNat_aluWide_adc (x y : Byte) (cy : Bool) : (aluWide .adc x y cy).toNat = x.toNat + y.toNat + cy.toNat := by
  have hcy := toNat_carryIn cy
  have hle := cy.toNat_le
  simp only [aluWide]
  bv_omega

theorem loByte_setWidth (v : Byte) : loByte (v.setWidth 16) = v := by
  apply BitVec.eq_of_toNat_eq
  rw [toNat_loByte]
  bv_omega

/-! ### The outcome of an operation, for any second operand and length -/

/-- An operation with the carry rule of R133, whose `w` is the number `n`: A is `n` modulo 256, and CY says whether `n` exceeds 255. -/
theorem alu_outcome_of_toNat (s : State) {op : AluOp} {y : Byte} {n : Nat} (len : Word) (hA : aluKeepsA op = false)
    (hcy : aluCarry op = fun w => decide (0x00FF#16 < w)) (hw : (aluWide op s.a y s.flags.cy).toNat = n) :
    s.aluOutcome ((s.alu op y).advance len) (n % 256) (decide (255 < n)) len := by
  have h := alu_outcome s y len hA
  simpa only [hcy, toNat_loByte, BitVec.lt_def, hw, BitVec.reduceToNat] using h

/-- An operation with the carry rule of R134, whose `w` is the byte `v`: A is `v` and CY is 0. -/
theorem alu_outcome_of_byte (s : State) {op : AluOp} {y v : Byte} (len : Word) (hA : aluKeepsA op = false)
    (hcy : aluCarry op = fun _ => false) (hw : aluWide op s.a y s.flags.cy = v.setWidth 16) :
    s.aluOutcome ((s.alu op y).advance len) v.toNat false len := by
  have h := alu_outcome s y len hA
  simpa only [hcy, hw, loByte_setWidth] using h

theorem alu_add_outcome (s : State) (y : Byte) (len : Word) :
    s.aluOutcome ((s.alu .add y).advance len) ((s.a.toNat + y.toNat) % 256) (decide (255 < s.a.toNat + y.toNat)) len :=
  alu_outcome_of_toNat s len rfl rfl (toNat_aluWide_add s.a y s.flags.cy)

theorem alu_adc_outcome (s : State) (y : Byte) (len : Word) :
    s.aluOutcome ((s.alu .adc y).advance len) ((s.a.toNat + y.toNat + s.flags.cy.toNat) % 256)
      (decide (255 < s.a.toNat + y.toNat + s.flags.cy.toNat)) len :=
  alu_outcome_of_toNat s len rfl rfl (toNat_aluWide_adc s.a y s.flags.cy)

theorem alu_ana_outcome (s : State) (y : Byte) (len : Word) :
    s.aluOutcome ((s.alu .ana y).advance len) (s.a.toNat &&& y.toNat) false len := by
  rw [← BitVec.toNat_and]
  exact alu_outcome_of_byte s len rfl rfl rfl

theorem alu_xra_outcome (s : State) (y : Byte) (len : Word) :
    s.aluOutcome ((s.alu .xra y).advance len) (s.a.toNat ^^^ y.toNat) false len := by
  rw [← BitVec.toNat_xor]
  exact alu_outcome_of_byte s len rfl rfl rfl

theorem alu_ora_outcome (s : State) (y : Byte) (len : Word) :
    s.aluOutcome ((s.alu .ora y).advance len) (s.a.toNat ||| y.toNat) false len := by
  rw [← BitVec.toNat_or]
  exact alu_outcome_of_byte s len rfl rfl rfl

/-- Settles O24: the register form and the immediate form are one operation with operands and lengths of their own. -/
theorem additionResult : Obligations.AdditionResult := by
  intro s
  exact ⟨fun r => ⟨s.aluReg .add r, exec_ofAlu s .add r, alu_add_outcome s (s.get8 r) 1#16⟩,
    fun imm => ⟨s.aluImm .add imm, exec_ofAluImm s .add imm, alu_add_outcome s imm 2#16⟩,
    fun r => ⟨s.aluReg .adc r, exec_ofAlu s .adc r, alu_adc_outcome s (s.get8 r) 1#16⟩,
    fun imm => ⟨s.aluImm .adc imm, exec_ofAluImm s .adc imm, alu_adc_outcome s imm 2#16⟩⟩

/-- Settles O27: as for O24, with the three bitwise operations. -/
theorem logicResult : Obligations.LogicResult := by
  intro s
  exact ⟨fun r => ⟨s.aluReg .ana r, exec_ofAlu s .ana r, alu_ana_outcome s (s.get8 r) 1#16⟩,
    fun imm => ⟨s.aluImm .ana imm, exec_ofAluImm s .ana imm, alu_ana_outcome s imm 2#16⟩,
    fun r => ⟨s.aluReg .xra r, exec_ofAlu s .xra r, alu_xra_outcome s (s.get8 r) 1#16⟩,
    fun imm => ⟨s.aluImm .xra imm, exec_ofAluImm s .xra imm, alu_xra_outcome s imm 2#16⟩,
    fun r => ⟨s.aluReg .ora r, exec_ofAlu s .ora r, alu_ora_outcome s (s.get8 r) 1#16⟩,
    fun imm => ⟨s.aluImm .ora imm, exec_ofAluImm s .ora imm, alu_ora_outcome s imm 2#16⟩⟩

/-! ### Parity -/

/-- `parity` takes the exclusive or from bit 7 down to bit 0 and the fold from bit 0 up; it commutes and associates. -/
theorem parity_eq_not_foldl_xor (v : Byte) : parity v = !(List.range 8).foldl (fun x k => x ^^ v.getLsbD k) false := by
  simp only [parity, List.range_succ, List.range_zero, List.nil_append, List.cons_append, List.foldl_cons, List.foldl_nil,
    Bool.false_xor, Bool.xor_assoc, Bool.xor_comm]

/-- Settles O15: the count of 1 bits is the law `parity_eq`. -/
theorem parityOfEveryByte : Obligations.ParityOfEveryByte := by
  intro v
  exact ⟨by rw [parity_eq, decide_eq_true_eq], parity_eq_not_foldl_xor v⟩

/-! ### The 16-bit steps -/

@[simp] theorem get16_advance (s : State) (p : RP) (n : Word) : (s.advance n).get16 p = s.get16 p := by
  cases p <;> rfl

/-- What a 16-bit write and an advance leave alone: A, the flags, the memory and everything else but the pairs, `sp` and `pc`. -/
theorem set16_advance_frame {s t : State} {p : RP} {v n : Word} (ht : t = (s.set16 p v).advance n) :
    t = { s with b := t.b, c := t.c, d := t.d, e := t.e, h := t.h, l := t.l, sp := t.sp, pc := s.pc + n } := by
  subst ht
  cases p <;> rfl

theorem get16_set16_advance (s : State) (p : RP) (v n : Word) : ((s.set16 p v).advance n).get16 p = v := by
  rw [get16_advance, get16_set16]

theorem get16_set16_advance_other (s : State) {p q : RP} (v n : Word) (h : q ≠ p) :
    ((s.set16 p v).advance n).get16 q = s.get16 q := by
  rw [get16_advance, get16_set16_other s v h]

/-- Settles O29: INX and DCX write the operand and advance; one less modulo 2^16 is 65535 more. -/
theorem incrementDecrementPair : Obligations.IncrementDecrementPair := by
  intro s p
  refine ⟨⟨s.inx p, exec_ofInx s p, ?_, fun q hq => get16_set16_advance_other s _ 1#16 hq, set16_advance_frame rfl⟩,
    ⟨s.dcx p, exec_ofDcx s p, ?_, fun q hq => get16_set16_advance_other s _ 1#16 hq, set16_advance_frame rfl⟩⟩
  · rw [State.inx, get16_set16_advance]
    bv_omega
  · rw [State.dcx, get16_set16_advance]
    bv_omega

end Sys2Proof.Machine
end

section
/-! The shift register behind ports 2, 3 and 4 (rule R248). Its two latches are read as one word, high latch first, so that the
arithmetic is that of the laws `toNat_mkWord` and `toNat_loByte`; a shift right by `n` is the division by `2 ^ n`. -/

namespace Sys2Proof.Machine

/-- Settles O48: the low byte of the word `sh_hi ++ sh_lo` after its shift right, each operation by its value. -/
theorem shiftRegisterFormula : Obligations.ShiftRegisterFormula := by
  intro s
  calc s.shiftResult.toNat
      = (mkWord s.shHi s.shLo >>> (8 - s.shOff.toNat)).toNat % 256 := by
        rw [State.shiftResult, toNat_loByte]
    _ = (mkWord s.shHi s.shLo).toNat / 2 ^ (8 - s.shOff.toNat) % 256 := by
        rw [BitVec.toNat_ushiftRight, Nat.shiftRight_eq_div_pow]
    _ = (256 * s.shHi.toNat + s.shLo.toNat) / 2 ^ (8 - s.shOff.toNat) % 256 := by
        rw [toNat_mkWord]

end Sys2Proof.Machine
end

section
/-! Encoding and decoding (30_encoding.md). The opcode byte is taken apart into the three fields of rule R82, so that a statement
about every opcode is one computation for each of their 4 · 8 · 8 values; the operand bytes are variables throughout. -/

namespace Sys2Proof.Machine

/-! ### What the decoder answers -/

/-- The four values of a 2-bit field (rule R82). -/
theorem field2_cases {P : Fin 4 → Prop} (h0 : P 0) (h1 : P 1) (h2 : P 2) (h3 : P 3) (n : Fin 4) : P n :=
  match n with
  | 0 => h0
  | 1 => h1
  | 2 => h2
  | 3 => h3

/-- The eight values of a 3-bit field (rule R82). -/
theorem field3_cases {P : Fin 8 → Prop} (h0 : P 0) (h1 : P 1) (h2 : P 2) (h3 : P 3) (h4 : P 4) (h5 : P 5) (h6 : P 6) (h7 : P 7)
    (n : Fin 8) : P n :=
  match n with
  | 0 => h0
  | 1 => h1
  | 2 => h2
  | 3 => h3
  | 4 => h4
  | 5 => h5
  | 6 => h6
  | 7 => h7

/-- The opcode byte by its fields `op[7:6]`, `op[5:3]` and `op[2:0]` (rule R82). -/
theorem byte_eq_fields (op : Byte) : ∃ (g : Fin 4) (m l : Fin 8), op = BitVec.ofNat 8 (64 * g + 8 * m + l) := by
  refine ⟨⟨op.toNat / 64, by omega⟩, ⟨op.toNat / 8 % 8, by omega⟩, ⟨op.toNat % 8, by omega⟩, ?_⟩
  apply BitVec.eq_of_toNat_eq
  simp only [BitVec.toNat_ofNat]
  omega

/-- What any three bytes decode to is well-formed and encodes to its own bytes (rules R92, R94, R95). The operand bytes are read as
the halves of one word, so that the two immediates of a row are that word and its low half. -/
theorem wf_encode_decode (op b1 b2 : Byte) :
    (decode op b1 b2).wf = true ∧ encode (decode op b1 b2) = [op, b1, b2].take (opLength op) := by
  obtain ⟨g, m, l, rfl⟩ := byte_eq_fields op
  obtain ⟨w, rfl, rfl⟩ : ∃ w, b1 = loByte w ∧ b2 = hiByte w :=
    ⟨mkWord b2 b1, (loByte_mkWord b2 b1).symm, (hiByte_mkWord b2 b1).symm⟩
  rw [decode, mkWord_halves]
  cases g using field2_cases <;> cases m using field3_cases <;> cases l using field3_cases <;> exact ⟨rfl, rfl⟩

theorem decode_undefinedOpcode {op : Byte} (b1 b2 : Byte) (h : op ∈ Config.undefinedOpcodes) :
    decode op b1 b2 = .undefinedOp op := by
  have hIn : op ≠ 0xDB#8 := fun e => absurd (e ▸ h) (by decide)
  have hOut : op ≠ 0xD3#8 := fun e => absurd (e ▸ h) (by decide)
  rw [decode, if_neg hIn, if_neg hOut, if_pos (List.contains_iff_mem.mpr h)]

theorem opLength_undefinedOpcode {op : Byte} (h : op ∈ Config.undefinedOpcodes) : opLength op = 1 := by
  rw [opLength, if_pos (List.contains_iff_mem.mpr h)]

theorem decodeBytes_of_opLength_one {op : Byte} (rest : List Byte) (h : opLength op = 1) :
    decodeBytes (op :: rest) = .ok (decode op 0#8 0#8, rest) := by
  simp only [decodeBytes, h]

/-- A row with a 16-bit operand: the word whose halves are the two operand bytes (rules R81, R87). -/
theorem decodeBytes_encode3 {op : Byte} {row : Word → Instr} {rest : List Byte}
    (h : ∀ lo hi, decodeBytes (op :: lo :: hi :: rest) = .ok (row (mkWord hi lo), rest)) (w : Word) :
    decodeBytes (encode3 op w ++ rest) = .ok (row w, rest) :=
  calc decodeBytes (encode3 op w ++ rest)
      = .ok (row (mkWord (hiByte w) (loByte w)), rest) := h (loByte w) (hiByte w)
    _ = .ok (row w, rest) := by rw [mkWord_halves]

/-! ### The round trips -/

/-- Settles O1: family by family; a row without a 16-bit operand computes, one with such an operand is `decodeBytes_encode3`. -/
theorem decodeOfEncodedInstruction : Obligations.DecodeOfEncodedInstruction := by
  intro i rest
  induction i using Instr.byFamily with
  | mov dst src => cases dst <;> cases src <;> exact fun _ => rfl
  | alu op r => cases op <;> cases r <;> exact fun _ => rfl
  | aluImm op imm => cases op <;> exact fun _ => rfl
  | mvi dst imm | inr dst | dcr dst => cases dst <;> exact fun _ => rfl
  | inx p | dcx p | dad p | push p | pop p => cases p <;> exact fun _ => rfl
  | rcc cc => cases cc <;> exact fun _ => rfl
  | rst n => cases n using field3_cases <;> exact fun _ => rfl
  | lxi p w => cases p <;> exact fun _ => decodeBytes_encode3 (fun _ _ => rfl) w
  | jcc cc w | ccc cc w => cases cc <;> exact fun _ => decodeBytes_encode3 (fun _ _ => rfl) w
  | shld w | lhld w | sta w | lda w | jmp w | call w => exact fun _ => decodeBytes_encode3 (fun _ _ => rfl) w
  | undefinedOp op =>
    intro hwf
    have h : op ∈ Config.undefinedOpcodes := List.contains_iff_mem.mp hwf
    calc decodeBytes (op :: rest)
        = .ok (decode op 0#8 0#8, rest) := decodeBytes_of_opLength_one rest (opLength_undefinedOpcode h)
      _ = .ok (.undefinedOp op, rest) := by rw [decode_undefinedOpcode _ _ h]
  | _ => exact fun _ => rfl

/-- The lengths of rule R95 by bit pattern, for the 244 defined opcodes. -/
theorem opLength_eq_of_pattern : ∀ op : Byte, op ∉ Config.undefinedOpcodes →
    opLength op =
      if op &&& 0xCF#8 = 0x01#8 ∨ op ∈ [0x22#8, 0x2A#8, 0x32#8, 0x3A#8, 0xC3#8, 0xCD#8] ∨ op &&& 0xC7#8 = 0xC2#8
          ∨ op &&& 0xC7#8 = 0xC4#8 then 3
      else if op &&& 0xC7#8 = 0x06#8 ∨ op &&& 0xC7#8 = 0xC6#8 ∨ op ∈ [0xD3#8, 0xDB#8] then 2
      else 1 := by
  decide +kernel

/-- Settles O2: the first two parts are `wf_encode_decode`, the lengths are `opLength_eq_of_pattern`. -/
theorem encodeOfDecodedBytes : Obligations.EncodeOfDecodedBytes := by
  intro op b1 b2
  obtain ⟨hwf, henc⟩ := wf_encode_decode op b1 b2
  exact ⟨hwf, henc, opLength_eq_of_pattern op⟩

/-- The two round trips together: three bytes and more decode as their first byte's length says (rule R94). -/
theorem decodeBytes_three (op b1 b2 : Byte) (rest : List Byte) :
    decodeBytes (op :: b1 :: b2 :: rest) = .ok (decode op b1 b2, [op, b1, b2].drop (opLength op) ++ rest) := by
  obtain ⟨hwf, henc⟩ := wf_encode_decode op b1 b2
  have h := decodeOfEncodedInstruction (decode op b1 b2) ([op, b1, b2].drop (opLength op) ++ rest) hwf
  rwa [henc, ← List.append_assoc, List.take_append_drop] at h

/-! ### The opcode map -/

theorem opcodeWords_firstBytes (lo hi : Byte) :
    (opcodeWords lo hi).map (fun x => x.1.head?) = (List.range 256).map (fun n => some (BitVec.ofNat 8 n)) := by
  simp only [opcodeWords, List.map_append, List.map_cons, List.map_nil, List.head?_cons]
  decide +kernel

theorem opcodeWords_decode (lo hi : Byte) (rest : List Byte) :
    ∀ x ∈ opcodeWords lo hi, decodeBytes (x.1 ++ rest) = .ok (x.2, rest) := by
  simp only [opcodeWords, List.forall_mem_append, List.forall_mem_cons, List.not_mem_nil, false_implies, implies_true, and_true]
  and_intros <;> rfl

/-- Settles O3: the map word by word, then every code of every operand field, each word by computation. -/
theorem sampleWordsDecode : Obligations.SampleWordsDecode := by
  intro lo hi rest
  refine ⟨opcodeWords_firstBytes lo hi, opcodeWords_decode lo hi rest, fun d s => ?_, fun a s => ?_, fun a => ?_, fun d => ?_,
    fun p => ?_, fun c => ?_, fun n => ?_, rfl⟩
  · cases d using field3_cases <;> cases s using field3_cases <;> rfl
  · cases a using field3_cases <;> cases s using field3_cases <;> rfl
  · cases a using field3_cases <;> rfl
  · cases d using field3_cases <;> exact ⟨rfl, rfl, rfl⟩
  · cases p using field2_cases <;> exact ⟨rfl, rfl, rfl, rfl, rfl, rfl⟩
  · cases c using field3_cases <;> exact ⟨rfl, rfl, rfl⟩
  · cases n using field3_cases <;> rfl

end Sys2Proof.Machine
end

section
/-! The state and its operands (10_state.md, 20_memory.md): creation and reset, memory, the stack, the operand forms, the conditions
and the packed flag byte. -/

namespace Sys2Proof.Machine

/-! ### Creation and reset -/

/-- Settles O6: `create` is a record of the parameters and zeros. -/
theorem createdState : Obligations.CreatedState := by
  intro pcInit spInit memInit ports diagEnabled
  have zero : mkWord 0#8 0#8 = 0#16 := by decide
  refine ⟨fun r hr => ?_, zero, zero, zero, rfl, rfl, rfl, rfl, rfl, rfl, rfl, fun _ => rfl, rfl, rfl, rfl, rfl, rfl, rfl, rfl⟩
  cases r
  case m => exact absurd rfl hr
  all_goals rfl

/-- Settles O7: nothing is written, recorded or emitted yet. -/
theorem resetMeetsInvariant : Obligations.ResetMeetsInvariant where
  memWf := reset_mem_wf
  exitIffCause := by decide
  infoIffExit := rfl
  diagQuiet := fun _ => rfl

/-! ### Memory -/

/-- `readByte_writeWord` with the low half first: the two addresses differ, so that the order of the questions does not matter. -/
theorem readByte_writeWord_low_first (s : State) (a v x : Word) :
    (s.writeWord a v).readByte x = if x = a then loByte v else if x = a + 1#16 then hiByte v else s.readByte x := by
  have hne : a ≠ a + 1#16 := by bv_omega
  rw [readByte_writeWord]
  by_cases hx : x = a
  · rw [if_pos hx, if_pos hx, if_neg (hx ▸ hne)]
  · rw [if_neg hx, if_neg hx]

theorem toNat_readWord (s : State) (a : Word) :
    (s.readWord a).toNat = 256 * (s.readByte (a + 1#16)).toNat + (s.readByte a).toNat :=
  toNat_mkWord _ _

/-- Settles O11: the laws of `writeByte` and `writeWord`, in arithmetic. -/
theorem memoryReadAfterWrite : Obligations.MemoryReadAfterWrite := by
  intro s addr x v w
  refine ⟨readByte_writeByte s addr x v, rfl, ?_, rfl, toNat_readWord s addr⟩
  rw [readByte_writeWord_low_first, apply_ite BitVec.toNat, apply_ite BitVec.toNat, toNat_loByte, toNat_hiByte]

/-! ### The stack -/

/-- Where `sp` is after a push and a pop (rules R58, R59). -/
@[simp] theorem sub_one_sub_one_add_two (sp : Word) : sp - 1#16 - 1#16 + 2#16 = sp := by
  bv_omega

/-- Settles O12: the laws `push16_pushed` and `top_push16`, and the arithmetic of `sp`. -/
theorem stackPushThenPop : Obligations.StackPushThenPop := by
  intro s v
  refine ⟨push16_pushed s v, push16_pc s v, toNat_readWord s s.sp, rfl, top_push16 s v, ?_⟩
  rw [drop_sp, push16_sp, sub_one_sub_one_add_two]

/-! ### Operands -/

theorem onlyRegsPc_set8 (s : State) {r : R8} (v : Byte) (h : r ≠ .m) : s.onlyRegsPc (s.set8 r v) := by
  cases r
  case m => exact absurd rfl h
  all_goals rfl

/-- A 16-bit write changes no more than the halves of a pair, or `sp`. -/
theorem onlyRegsPc_set16 (s : State) (p : RP) (v : Word) : s.onlyRegsPc { s.set16 p v with sp := s.sp } := by
  cases p <;> rfl

/-- Settles O13: reading back and what a write leaves, for each operand form. -/
theorem operandForms : Obligations.OperandForms := by
  intro s v w x
  refine ⟨rfl, fun r hr => ⟨get8_set8 s v hr, fun q hq hne => get8_set8_other s v hq hne, readByte_set8 s v x hr,
    onlyRegsPc_set8 s v hr, set8_pc s r v⟩, readByte_writeByte s s.hl x v, rfl, fun p => ⟨get16_set16 s p w,
    fun q hne => get16_set16_other s w hne, onlyRegsPc_set16 s p w, set16_a s p w, set16_pc s p w⟩⟩

/-! ### Conditions and the flag byte -/

/-- Settles O14: a condition is a flag or its complement. -/
theorem conditionPredicates : Obligations.ConditionPredicates := by
  intro f
  have holdsWhenClear (b : Bool) : (!b) = true ↔ b = false := iff_of_eq (Bool.not_eq_true' b)
  exact ⟨holdsWhenClear f.z, Iff.rfl, holdsWhenClear f.cy, Iff.rfl, holdsWhenClear f.p, Iff.rfl, holdsWhenClear f.s, Iff.rfl⟩

/-- The bits of the packed flag byte by weight (rule R28). -/
theorem toNat_flagByte (f : Flags) :
    (flagByte f).toNat = 128 * f.s.toNat + 64 * f.z.toNat + 16 * f.ac.toNat + 4 * f.p.toNat + 2 + f.cy.toNat := by
  obtain ⟨cy, z, s, p, ac⟩ := f
  revert cy z s p ac
  decide

theorem flagsOfByte_flagByte (f : Flags) : flagsOfByte (flagByte f) = f := by
  obtain ⟨cy, z, s, p, ac⟩ := f
  revert cy z s p ac
  decide

/-- Packing what was unpacked clears bits 5 and 3 and sets bit 1 (rules R28, R198). -/
theorem flagByte_flagsOfByte : ∀ v : Byte, flagByte (flagsOfByte v) = (v &&& 0xD7#8) ||| 0x02#8 := by
  decide +kernel

/-- Settles O16: the three laws of packing and unpacking. -/
theorem flagByteLayout : Obligations.FlagByteLayout := by
  intro f v
  exact ⟨toNat_flagByte f, flagsOfByte_flagByte f, flagByte_flagsOfByte v⟩

end Sys2Proof.Machine
end

section
/-! The rest of 40_data_transfer.md: immediates to every operand, and the two-byte moves of HL. -/

namespace Sys2Proof.Machine

theorem setHl_mkWord (s : State) (x y : Byte) : s.setHl (mkWord x y) = { s with h := x, l := y } := by
  rw [State.setHl, hiByte_mkWord, loByte_mkWord]

/-- Everything a store of HL does (rules R119, R211): L at the address and H at the next one. -/
theorem readByte_writeWord_hl (s : State) (a x : Word) :
    (s.writeWord a s.hl).readByte x = if x = a then s.l else if x = a + 1#16 then s.h else s.readByte x := by
  rw [readByte_writeWord_low_first, State.hl, loByte_mkWord, hiByte_mkWord]

/-- Settles O19: as O17 and O18, with the immediate as the value. -/
theorem moveImmediate : Obligations.MoveImmediate := by
  intro s imm
  refine ⟨fun dst hdst => ⟨s.mvi dst imm, exec_ofMvi s dst imm, ?_, fun r hr hne => ?_, ?_, ?_⟩,
    ⟨s.mvi .m imm, rfl, writeByte_advance_stores s s.hl imm 2#16⟩⟩
  · rw [State.mvi, get8_advance, get8_set8 s imm hdst]
  · rw [State.mvi, get8_advance, get8_set8_other s imm hr hne]
  · rw [State.mvi, advance_pc, set8_pc]
  · exact onlyRegsPc_set8_advance s imm 2#16 hdst

/-- Settles O20: LXI is the 16-bit write of O29 with the immediate as the value. -/
theorem loadPairImmediate : Obligations.LoadPairImmediate := by
  intro s p w
  refine ⟨s.lxi p w, exec_ofLxi s p w, get16_set16_advance s p w 3#16, fun q hq => get16_set16_advance_other s w 3#16 hq, ?_,
    set16_advance_frame rfl⟩
  rw [State.lxi, advance_a, set16_a]

/-- Settles O23: HL is loaded and stored as a word, its halves at the address and the next one. -/
theorem loadStoreHL : Obligations.LoadStoreHL := by
  intro s w
  refine ⟨?_, (s.writeWord w s.hl).advance 3#16, rfl, fun x => ?_, rfl⟩
  · calc exec (.lhld w) s
        = .next ((s.setHl (mkWord (s.readByte (w + 1#16)) (s.readByte w))).advance 3#16) := rfl
      _ = .next { s with l := s.readByte w, h := s.readByte (w + 1#16), pc := s.pc + 3#16 } := by
          rw [setHl_mkWord, State.advance]
  · rw [readByte_advance, readByte_writeWord_hl]

end Sys2Proof.Machine
end

section
/-! Subtraction and compare, the 8-bit steps, DAD, the rotates and the rest that computes on A and the flags alone
(41_arithmetic_logic.md, 42_rotate.md, 45_misc.md). -/

namespace Sys2Proof.Machine

/-! ### Subtraction: the widened intermediate is the difference modulo 2^16 -/

theorem toNat_aluWide_sub (x y : Byte) (cy : Bool) :
    (aluWide .sub x y cy).toNat = (65536 + x.toNat - y.toNat) % 65536 := by
  simp only [aluWide]
  bv_omega

theorem toNat_aluWide_sbb (x y : Byte) (cy : Bool) :
    (aluWide .sbb x y cy).toNat = (65536 + x.toNat - (y.toNat + cy.toNat)) % 65536 := by
  have hcy := toNat_carryIn cy
  have hle := cy.toNat_le
  simp only [aluWide]
  bv_omega

/-- The low byte of a difference modulo 2^16 is the difference modulo 256. -/
theorem difference_mod_256 {x d : Nat} (hd : d ≤ 256) : (65536 + x - d) % 65536 % 256 = (x + 256 - d) % 256 := by
  omega

/-- A difference modulo 2^16 exceeds a byte exactly when there is a borrow (rule R133, decision D23). -/
theorem difference_exceeds_iff {x d : Nat} (hx : x < 256) (hd : d ≤ 256) : 255 < (65536 + x - d) % 65536 ↔ x < d := by
  omega

/-- An operation with the carry rule of R133, whose `w` is the difference of A and `d`. -/
theorem alu_outcome_of_difference (s : State) {op : AluOp} {y : Byte} {d : Nat} (len : Word) (hA : aluKeepsA op = false)
    (hcy : aluCarry op = fun w => decide (0x00FF#16 < w)) (hd : d ≤ 256)
    (hw : (aluWide op s.a y s.flags.cy).toNat = (65536 + s.a.toNat - d) % 65536) :
    s.aluOutcome ((s.alu op y).advance len) ((s.a.toNat + 256 - d) % 256) (decide (s.a.toNat < d)) len := by
  have h := alu_outcome_of_toNat s len hA hcy hw
  rwa [difference_mod_256 hd, decide_eq_decide.mpr (difference_exceeds_iff s.a.isLt hd)] at h

theorem alu_sub_outcome (s : State) (y : Byte) (len : Word) :
    s.aluOutcome ((s.alu .sub y).advance len) ((s.a.toNat + 256 - y.toNat) % 256) (decide (s.a.toNat < y.toNat)) len :=
  alu_outcome_of_difference s len rfl rfl (Nat.le_of_lt y.isLt) (toNat_aluWide_sub s.a y s.flags.cy)

theorem alu_sbb_outcome (s : State) (y : Byte) (len : Word) :
    s.aluOutcome ((s.alu .sbb y).advance len) ((s.a.toNat + 256 - (y.toNat + s.flags.cy.toNat)) % 256)
      (decide (s.a.toNat < y.toNat + s.flags.cy.toNat)) len := by
  have hy := y.isLt
  have hcy := s.flags.cy.toNat_le
  exact alu_outcome_of_difference s len rfl rfl (by omega) (toNat_aluWide_sbb s.a y s.flags.cy)

/-- Settles O25: as O24, the borrow being the carry out of the difference modulo 2^16. -/
theorem subtractionResult : Obligations.SubtractionResult := by
  intro s
  exact ⟨fun r => ⟨s.aluReg .sub r, exec_ofAlu s .sub r, alu_sub_outcome s (s.get8 r) 1#16⟩,
    fun imm => ⟨s.aluImm .sub imm, exec_ofAluImm s .sub imm, alu_sub_outcome s imm 2#16⟩,
    fun r => ⟨s.aluReg .sbb r, exec_ofAlu s .sbb r, alu_sbb_outcome s (s.get8 r) 1#16⟩,
    fun imm => ⟨s.aluImm .sbb imm, exec_ofAluImm s .sbb imm, alu_sbb_outcome s imm 2#16⟩⟩

/-! ### Compare -/

/-- Compare is subtraction with A put back (rule R152). -/
theorem alu_cmp_eq_sub (s : State) (y : Byte) : s.alu .cmp y = { s.alu .sub y with a := s.a } := rfl

theorem alu_cmp_outcome (s : State) (y : Byte) (len : Word) :
    ((s.alu .cmp y).advance len).flags.cy = decide (s.a.toNat < y.toNat) ∧
      zspOf ((s.alu .cmp y).advance len).flags ((s.a.toNat + 256 - y.toNat) % 256) ∧
      (s.alu .cmp y).advance len
        = { s with
            flags := ((s.alu .cmp y).advance len).flags, draws := ((s.alu .cmp y).advance len).draws, pc := s.pc + len } := by
  obtain ⟨-, hcy, hzsp, -⟩ := alu_sub_outcome s y len
  rw [alu_cmp_eq_sub]
  exact ⟨hcy, hzsp, rfl⟩

/-- Settles O26: the outcome of SUB with A put back. -/
theorem compareResult : Obligations.CompareResult := by
  intro s
  exact ⟨fun r => ⟨s.aluReg .cmp r, exec_ofAlu s .cmp r, alu_cmp_outcome s (s.get8 r) 1#16⟩,
    fun imm => ⟨s.aluImm .cmp imm, exec_ofAluImm s .cmp imm, alu_cmp_outcome s imm 2#16⟩⟩

/-! ### The 8-bit steps -/

@[simp] theorem get8_stepFlags (s : State) (r : R8) (v : Byte) : (s.stepFlags v).get8 r = s.get8 r := by
  cases r <;> rfl

/-- Every operand reads back what was written to it, `M` included: the write to `M` leaves HL alone. -/
theorem get8_set8_same (s : State) (r : R8) (v : Byte) : (s.set8 r v).get8 r = v := by
  by_cases h : r = .m
  · subst h
    exact (readByte_writeByte s s.hl s.hl v).trans (if_pos rfl)
  · exact get8_set8 s v h

theorem readByte_set8_of_ne (s : State) {r : R8} {x : Word} (v : Byte) (h : ¬(r = .m ∧ x = s.hl)) :
    (s.set8 r v).readByte x = s.readByte x := by
  by_cases hr : r = .m
  · subst hr
    exact (readByte_writeByte s s.hl x v).trans (if_neg fun hx => h ⟨rfl, hx⟩)
  · exact readByte_set8 s v x hr

/-- INR and DCR for the value `v` they compute (rules R154, R155): the operand is `v`, Z, S and P are those of `v`, CY and every
other register and byte are as before. -/
theorem set8_stepFlags_outcome (s : State) (dst : R8) (v : Byte) :
    let t := ((s.set8 dst v).stepFlags v).advance 1#16
    t.get8 dst = v ∧ t.flags.cy = s.flags.cy ∧ zspOf t.flags (t.get8 dst).toNat ∧
      (∀ r, r ≠ R8.m → r ≠ dst → t.get8 r = s.get8 r) ∧
      (∀ x, ¬(dst = .m ∧ x = s.hl) → t.readByte x = s.readByte x) ∧
      s.onlyRegsPc { t with mem := s.mem, flags := s.flags, draws := s.draws } ∧ t.pc = s.pc + 1#16 := by
  intro t
  obtain ⟨hcy, hzsp, -⟩ := stepFlags_outcome (s.set8 dst v) v
  have hv : t.get8 dst = v := by rw [get8_advance, get8_stepFlags, get8_set8_same]
  refine ⟨hv, hcy.trans (by rw [set8_flags]), hv.symm ▸ hzsp, fun r hr hne => ?_,
    fun x hx => readByte_set8_of_ne s v hx, ?_, ?_⟩
  · rw [get8_advance, get8_stepFlags, get8_set8_other s v hr hne]
  · cases dst <;> rfl
  · rw [advance_pc, stepFlags_pc, set8_pc]

/-- Settles O28: one less modulo 256 is 255 more. -/
theorem incrementDecrementByte : Obligations.IncrementDecrementByte := by
  intro s dst
  obtain ⟨hi, incRest⟩ := set8_stepFlags_outcome s dst (s.get8 dst + 1#8)
  obtain ⟨hd, decRest⟩ := set8_stepFlags_outcome s dst (s.get8 dst - 1#8)
  refine ⟨⟨s.inr dst, exec_ofInr s dst, ?_, incRest⟩, ⟨s.dcr dst, exec_ofDcr s dst, ?_, decRest⟩⟩
  · rw [State.inr, hi]
    bv_omega
  · rw [State.dcr, hd]
    bv_omega

/-! ### DAD -/

theorem toNat_dadSum (x y : Word) : (dadSum x y).toNat = x.toNat + y.toNat := by
  rw [dadSum]
  bv_omega

/-- Bit 16 of the 17-bit sum is its carry (rule R158). -/
theorem getLsbD_dadSum (x y : Word) : (dadSum x y).getLsbD 16 = decide (65536 ≤ x.toNat + y.toNat) := by
  rw [← toNat_dadSum]
  exact (BitVec.msb_eq_getLsbD_last _).symm.trans (BitVec.msb_eq_decide _)

/-- Settles O30: HL and CY are the low 16 bits and bit 16 of one 17-bit sum. -/
theorem doubleAdd : Obligations.DoubleAdd := by
  intro s p
  refine ⟨s.dad p, exec_ofDad s p, ?_, getLsbD_dadSum s.hl (s.get16 p), rfl⟩
  have hl : (s.dad p).hl = (dadSum s.hl (s.get16 p)).setWidth 16 := mkWord_halves _
  rw [hl, BitVec.toNat_setWidth, toNat_dadSum]

/-! ### The rotates -/

theorem toNat_shiftInLow (v : Byte) (b : Bool) : (shiftInLow v b).toNat = 2 * v.toNat % 256 + b.toNat := by
  have hb : (BitVec.ofBool b).toNat = b.toNat := BitVec.toNat_ofBool b
  rw [shiftInLow, BitVec.toNat_append, ← Nat.shiftLeft_add_eq_or_of_lt (BitVec.ofBool b).isLt, hb, BitVec.extractLsb'_toNat,
    Nat.shiftLeft_eq, Nat.shiftRight_zero]
  omega

theorem toNat_shiftInHigh (b : Bool) (v : Byte) : (shiftInHigh b v).toNat = v.toNat / 2 + 128 * b.toNat := by
  have hv := v.isLt
  have hb : (BitVec.ofBool b).toNat = b.toNat := BitVec.toNat_ofBool b
  rw [shiftInHigh, BitVec.toNat_append, ← Nat.shiftLeft_add_eq_or_of_lt (v.extractLsb' 1 7).isLt, hb, BitVec.extractLsb'_toNat,
    Nat.shiftLeft_eq, Nat.shiftRight_eq_div_pow]
  omega

theorem lowBit_eq (v : Byte) : v.getLsbD 0 = decide (v.toNat % 2 = 1) :=
  Nat.testBit_zero v.toNat

theorem toNat_signBit (v : Byte) : (v.getLsbD 7).toNat = v.toNat / 128 := by
  have hv := v.isLt
  rw [signBit_eq]
  by_cases h : 128 ≤ v.toNat
  · rw [decide_eq_true h, Bool.toNat_true]
    omega
  · rw [decide_eq_false h, Bool.toNat_false]
    omega

theorem toNat_lowBit (v : Byte) : (v.getLsbD 0).toNat = v.toNat % 2 := by
  rw [lowBit_eq]
  rcases Nat.mod_two_eq_zero_or_one v.toNat with h | h <;> rw [h] <;> rfl

/-- Settles O31: each rotate shifts a bit in at one end and puts the bit that leaves at the other end into CY. -/
theorem rotateResult : Obligations.RotateResult := by
  intro s
  refine ⟨⟨_, rfl, ?_, ?_⟩, ⟨_, rfl, ?_, ?_⟩, ⟨_, rfl, ?_, ?_⟩, ⟨_, rfl, ?_, ?_⟩⟩
  · exact (toNat_shiftInLow s.a _).trans (by rw [toNat_signBit])
  · rw [← signBit_eq]; rfl
  · exact (toNat_shiftInHigh _ s.a).trans (by rw [toNat_lowBit])
  · rw [← lowBit_eq]; rfl
  · exact toNat_shiftInLow s.a s.flags.cy
  · rw [← signBit_eq]; rfl
  · exact toNat_shiftInHigh s.flags.cy s.a
  · rw [← lowBit_eq]; rfl

/-! ### Complement, carry, decimal adjust, no operation -/

/-- Settles O44: the complement in arithmetic; the rest is by definition. -/
theorem complementAndCarry : Obligations.ComplementAndCarry := by
  intro s
  exact ⟨⟨_, rfl, BitVec.toNat_not, rfl⟩, rfl, rfl⟩

/-- Settles O45: DAA is a function of A and the flags, whatever it computes. -/
theorem decimalAdjust : Obligations.DecimalAdjust := by
  intro s
  refine ⟨_, rfl, rfl, fun s' ha hf => ?_⟩
  rw [← ha, ← hf]
  rfl

/-- Settles O47: both are the advance by one byte. -/
theorem noOperation : Obligations.NoOperation := by
  intro s
  have hpc : (s.advance 1#16).pc.toNat = (s.pc.toNat + 1) % 65536 := by
    rw [advance_pc]
    bv_omega
  exact ⟨⟨s.advance 1#16, rfl, hpc, rfl⟩, ⟨s.advance 1#16, rfl, hpc, rfl⟩⟩

end Sys2Proof.Machine
end

section
/-! Stack and control transfer (43_stack_control.md) and the exchanges (44_exchange.md). The laws `jumpTo_cases`, `callIf_cases` and
`retIf_cases` say what a conditional transfer can do; what is said here besides is what each of those outcomes is as a state. -/

namespace Sys2Proof.Machine

/-! ### Jumps -/

/-- Settles O32: the two cases of a jump. -/
theorem jumpResult : Obligations.JumpResult := by
  intro s w
  have hexec : exec (.jmp w) s = .next (s.jumpTo .jmp 0xC3#8 w) := rfl
  split
  next hw =>
    refine ⟨_, hexec, ?_⟩
    rcases jumpTo_cases s .jmp 0xC3#8 w with ⟨-, -, e⟩ | ⟨hne, -⟩
    · rw [e]
      exact terminate_endedBy s .resetJump (.opcode 0xC3#8)
    · exact absurd hw (hne.resolve_left (by decide))
  next hw =>
    rcases jumpTo_cases s .jmp 0xC3#8 w with ⟨-, h0, -⟩ | ⟨-, e⟩
    · exact absurd h0 hw
    · rw [hexec, e, State.setPc]

/-- Settles O33: the three cases of a conditional jump. -/
theorem conditionalJumpResult : Obligations.ConditionalJumpResult := by
  intro s cc w
  obtain ⟨op, hop, hexec⟩ := exec_ofJcc s cc w
  rcases jumpIf_cases s cc op w with ⟨hc, hw, e⟩ | ⟨hc, hw, e⟩ | ⟨hc, e⟩
  · rw [if_pos hc, if_pos hw]
    exact ⟨_, op, hop, hexec.trans (by rw [e]), terminate_endedBy s .resetJump (.opcode op)⟩
  · rw [if_pos hc, if_neg hw, hexec, e, State.setPc]
  · rw [if_neg (Bool.eq_false_iff.mp hc), hexec, e, State.advance]

/-! ### Calls and restarts -/

/-- A CALL the diagnostic intercept does not claim (rules R184, R255). -/
theorem exec_call_unclaimed {s : State} {w : Word} (h : s.diagEnabled = false ∨ w ≠ 0x0005#16) :
    exec (.call w) s = .next (s.callTo (s.pc + 3#16) w) := by
  rcases exec_call_cases s w with ⟨-, e⟩ | ⟨hd, hw, -⟩
  · exact e
  · rcases h with h | h
    · rw [h] at hd
      cases hd
    · exact absurd hw h

/-- Settles O34: an unclaimed CALL is `callTo`. -/
theorem callResult : Obligations.CallResult := by
  intro s w h
  exact ⟨_, exec_call_unclaimed h, callTo_pushed s (s.pc + 3#16) w, callTo_pc s _ w⟩

/-- Settles O36: the two cases of a conditional call. -/
theorem conditionalCallResult : Obligations.ConditionalCallResult := by
  intro s cc w
  rcases callIf_cases s cc w with ⟨hc, e⟩ | ⟨hc, e⟩
  · rw [if_pos hc, exec_ofCcc, e]
    exact ⟨_, rfl, callTo_pushed s (s.pc + 3#16) w, callTo_pc s _ w⟩
  · rw [if_neg (Bool.eq_false_iff.mp hc), exec_ofCcc, e, State.advance]

/-- Settles O37: eight times a number below eight is below 2^16. -/
theorem restartResult : Obligations.RestartResult := by
  intro s n
  refine ⟨s.rst n, exec_ofRst s n, callTo_pushed s (s.pc + 1#16) _, ?_⟩
  rw [State.rst, callTo_pc, BitVec.toNat_ofNat]
  omega

/-! ### Returns -/

/-- Everything a return that is taken does (rule R186). -/
theorem popPc_returns (s : State) :
    s.popPc.pc.toNat = 256 * (s.readByte (s.sp + 1#16)).toNat + (s.readByte s.sp).toNat ∧
      s.popPc = { s with pc := s.popPc.pc, sp := s.sp + 2#16 } :=
  ⟨toNat_readWord s s.sp, rfl⟩

/-- Settles O38: RET and a return that is taken are `popPc`. -/
theorem returnResult : Obligations.ReturnResult := by
  intro s
  refine ⟨⟨s.popPc, rfl, popPc_returns s⟩, fun cc => ?_⟩
  rcases retIf_cases s cc with ⟨hc, e⟩ | ⟨hc, e⟩
  · rw [if_pos hc, exec_ofRcc, e]
    exact ⟨s.popPc, rfl, popPc_returns s⟩
  · rw [if_neg (Bool.eq_false_iff.mp hc), exec_ofRcc, e, State.advance]

/-- Settles O42: the word popped is the word pushed, and `sp` is back. -/
theorem callReturnRoundTrip : Obligations.CallReturnRoundTrip := by
  intro s w h
  refine ⟨_, exec_call_unclaimed h, congrArg Host.Outcome.next ?_⟩
  have htop : (s.callTo (s.pc + 3#16) w).top = s.pc + 3#16 := top_push16 s (s.pc + 3#16)
  ext1 <;> simp [htop]

/-! ### PUSH and POP -/

/-- A PUSH is a call to the next instruction with the operand as the return address. -/
theorem pushPair_eq_callTo (s : State) (p : StackPair) : s.pushPair p = s.callTo (s.getStack p) (s.pc + 1#16) := rfl

/-- Settles O39: one push, with four operands. -/
theorem pushResult : Obligations.PushResult := by
  intro s
  have pushes (p : StackPair) : ∃ t, exec (.ofPush p) s = .next t ∧ s.pushed t (s.getStack p) ∧ t.pc = s.pc + 1#16 := by
    refine ⟨s.pushPair p, exec_ofPush s p, ?_, ?_⟩
    · rw [pushPair_eq_callTo]
      exact callTo_pushed s _ _
    · rw [pushPair_eq_callTo, callTo_pc]
  exact ⟨pushes .bc, pushes .de, pushes .hl, pushes .psw⟩

/-- What POP loads from a word, by its halves (rules R197, R198). -/
theorem setStack_mkWord (s : State) (x y : Byte) :
    s.setStack .bc (mkWord x y) = { s with b := x, c := y } ∧ s.setStack .de (mkWord x y) = { s with d := x, e := y } ∧
      s.setStack .hl (mkWord x y) = { s with h := x, l := y } ∧
      s.setStack .psw (mkWord x y) = { s with a := x, flags := flagsOfByte y } := by
  simp only [State.setStack, State.setBc, State.setDe, State.setHl, hiByte_mkWord, loByte_mkWord, and_self]

/-- Settles O40: one pop, with four operands. -/
theorem popResult : Obligations.PopResult := by
  intro s
  have pops (p : StackPair) : exec (.ofPop p) s
      = .next ((s.drop.setStack p (mkWord (s.readByte (s.sp + 1#16)) (s.readByte s.sp))).advance 1#16) := exec_ofPop s p
  obtain ⟨hbc, hde, hhl, hpsw⟩ := setStack_mkWord s.drop (s.readByte (s.sp + 1#16)) (s.readByte s.sp)
  refine ⟨(pops .bc).trans ?_, (pops .de).trans ?_, (pops .hl).trans ?_, (pops .psw).trans ?_⟩
  · rw [hbc]; rfl
  · rw [hde]; rfl
  · rw [hhl]; rfl
  · rw [hpsw]; rfl

/-- Loading what PUSH would take changes nothing: the halves make up the pair, and the flag byte the five flags. -/
theorem setStack_getStack (s : State) (p : StackPair) : s.setStack p (s.getStack p) = s := by
  obtain ⟨hbc, -⟩ := setStack_mkWord s s.b s.c
  obtain ⟨-, hde, -⟩ := setStack_mkWord s s.d s.e
  obtain ⟨-, -, hhl, -⟩ := setStack_mkWord s s.h s.l
  obtain ⟨-, -, -, hpsw⟩ := setStack_mkWord s s.a (flagByte s.flags)
  rw [flagsOfByte_flagByte] at hpsw
  cases p
  · exact hbc
  · exact hde
  · exact hhl
  · exact hpsw

/-- Settles O41: after the push, the word popped is the operand, which no part of the push has touched. -/
theorem pushPopRoundTrip : Obligations.PushPopRoundTrip := by
  intro s p
  refine ⟨s.pushPair p, exec_ofPush s p, (exec_ofPop _ p).trans (congrArg Host.Outcome.next ?_)⟩
  have htop : (s.pushPair p).top = s.getStack p := top_push16 s (s.getStack p)
  have hkept : (s.pushPair p).drop.getStack p = s.getStack p := by
    cases p <;> simp [pushPair_eq_callTo, State.getStack, State.bc, State.de, State.hl]
  have hpc : s.pc + 1#16 + 1#16 = s.pc + 2#16 := by bv_omega
  calc (s.pushPair p).popPair p
      = ((s.pushPair p).drop.setStack p ((s.pushPair p).drop.getStack p)).advance 1#16 := by rw [State.popPair, htop, hkept]
    _ = (s.pushPair p).drop.advance 1#16 := by rw [setStack_getStack]
    _ = { s with mem := (s.pushPair p).mem, pc := s.pc + 2#16 } := by
        rw [pushPair_eq_callTo]
        ext1 <;> simp [hpc]

/-! ### Exchanges -/

/-- Settles O43: XCHG and XTHL read both sides before they write either. -/
theorem exchangeResult : Obligations.ExchangeResult := by
  intro s
  refine ⟨?_, ⟨_, rfl, fun x => ?_, ?_⟩, rfl, rfl⟩
  · calc exec .xchg s
        = .next (((s.setHl (mkWord s.d s.e)).setDe (mkWord s.h s.l)).advance 1#16) := rfl
      _ = .next { s with d := s.h, e := s.l, h := s.d, l := s.e, pc := s.pc + 1#16 } := by
          rw [setHl_mkWord, State.setDe, hiByte_mkWord, loByte_mkWord, State.advance]
  · exact readByte_writeWord_hl s s.sp x
  · rw [State.top, State.readWord, setHl_mkWord]
    rfl

end Sys2Proof.Machine
end

section
/-! The I/O hook and the diagnostic console (46_io_hook.md), and the opcodes with no handler (60_exceptions.md section 1). -/

namespace Sys2Proof.Machine

/-! ### The diagnostic console -/

theorem exec_call_diagTrap {s : State} (h : s.diagEnabled = true) : exec (.call 0x0005#16) s = s.intercept := by
  rcases exec_call_cases s 0x0005#16 with ⟨hc, -⟩ | ⟨-, -, -, e⟩
  · rw [State.claimsCall, h] at hc
    cases hc
  · exact e

theorem intercept_string {s : State} {vs : List Byte} (h : s.c = 0x09#8) (hs : s.stringFrom 65536 s.de = some vs) :
    s.intercept = .next (s.emit vs) := by
  have hsel : s.get8 Config.diagSelReg = Config.diagSelString := h
  have hfound : s.stringFrom 65536 (s.get16 Config.diagStrPair) = some vs := hs
  simp only [State.intercept, hsel, hfound, if_true]

theorem intercept_unterminated {s : State} (h : s.c = 0x09#8) (hs : s.stringFrom 65536 s.de = none) :
    s.intercept = .refused .diagStringUnterminated := by
  have hsel : s.get8 Config.diagSelReg = Config.diagSelString := h
  have hnone : s.stringFrom 65536 (s.get16 Config.diagStrPair) = none := hs
  simp only [State.intercept, hsel, hnone, if_true]

theorem intercept_char {s : State} (h : s.c = 0x02#8) : s.intercept = .next (s.emit [s.e]) := by
  have hstring : s.get8 Config.diagSelReg ≠ Config.diagSelString := fun e => absurd (h.symm.trans e) (by decide)
  rw [State.intercept, if_neg hstring, if_pos (show s.get8 Config.diagSelReg = Config.diagSelChar from h)]
  rfl

theorem intercept_other {s : State} (hchar : s.c ≠ 0x02#8) (hstring : s.c ≠ 0x09#8) : s.intercept = .next (s.emit []) := by
  rw [State.intercept, if_neg (show s.get8 Config.diagSelReg ≠ Config.diagSelString from hstring),
    if_neg (show s.get8 Config.diagSelReg ≠ Config.diagSelChar from hchar)]

/-- Settles O35: the four cases of the intercept, the string by the laws of `stringFrom`. -/
theorem diagnosticIntercept : Obligations.DiagnosticIntercept := by
  intro s hd
  rw [exec_call_diagTrap hd]
  refine ⟨fun hc => (intercept_char hc).trans rfl, fun h2 h9 => ?_, fun hc => ⟨fun n hn hend hbefore => ?_, fun hnone =>
    intercept_unterminated hc (stringFrom_none s hnone 65536 s.de)⟩⟩
  · rw [intercept_other h2 h9, State.emit, List.append_nil, State.advance]
  · exact (intercept_string hc (stringFrom_found s n 65536 s.de hn hend hbefore)).trans rfl

/-! ### Ports -/

/-- An unmapped port of IN (rules R244, R253, decision D31). -/
theorem inFrom_unmapped (s : State) {p : Byte} (h : 4 ≤ p.toNat) : s.inFrom p = s.unmappedPort .input p := by
  rcases inFrom_cases s p with ⟨hp, -⟩ | ⟨hp, -⟩ | ⟨hp, -⟩ | ⟨hp, -⟩ | ⟨-, e⟩
  case inr.inr.inr.inr => exact e
  all_goals
    rw [hp] at h
    exact absurd h (by decide)

/-- Settles O49: a mapped port computes, an unmapped one terminates. -/
theorem inputResult : Obligations.InputResult := by
  refine ⟨⟨Config.in0Const, fun s => rfl⟩, fun s => ⟨rfl, rfl, rfl, fun p hp => ⟨s.inFrom p, rfl, ?_⟩⟩⟩
  rw [inFrom_unmapped s hp]
  exact terminate_endedBy s .unsupportedOpcode (.port .input p)

/-- An unmapped port of OUT (rules R244, R253, decision D31). -/
theorem outTo_unmapped (s : State) {p : Byte} (h : p.toNat < 2 ∨ 6 < p.toNat) : s.outTo p = s.unmappedPort .output p := by
  rcases outTo_cases s p with ⟨hp, -⟩ | ⟨hp, -⟩ | ⟨hp | hp | hp, -⟩ | ⟨-, e⟩
  case inr.inr.inr => exact e
  all_goals
    rw [hp] at h
    exact absurd h (by decide)

/-- Settles O50: a mapped port computes, an unmapped one terminates. -/
theorem outputResult : Obligations.OutputResult := by
  intro s
  refine ⟨⟨s.outTo 2#8, rfl, ?_, rfl⟩, rfl, fun p hp => ?_, fun p hp => ⟨s.outTo p, rfl, ?_⟩⟩
  · exact BitVec.extractLsb'_toNat 0 3 s.a
  · rcases hp with hp | hp | hp <;> rw [hp] <;> rfl
  · rw [outTo_unmapped s hp]
    exact terminate_endedBy s .unsupportedOpcode (.port .output p)

/-! ### Undefined opcodes -/

/-- Settles O51: the twelve bytes are `Config.undefinedOpcodes`. -/
theorem undefinedOpcodeEndsRun : Obligations.UndefinedOpcodeEndsRun := by
  intro s op b1 b2 h
  rw [decode_undefinedOpcode b1 b2 (show op ∈ Config.undefinedOpcodes from h)]
  exact ⟨s.terminate .unsupportedOpcode (.opcode op), rfl, terminate_endedBy s .unsupportedOpcode (.opcode op)⟩

end Sys2Proof.Machine
end

section
/-! Turns: whose turn it is, the fetched instruction, the interrupt controller and the host's actions (00_scope.md section 7,
60_exceptions.md section 2, 70_reset_and_hazards.md). -/

namespace Sys2Proof.Machine

/-! ### One turn -/

/-- The core's turn: nothing after the end of the run, else the fetched instruction (rules R13, R83, R321). -/
theorem step_of_coresTurn {s : State} (h : s.coresTurn = true) :
    step s = if s.exit then .fault .runOver else exec s.fetch s.beginStep := by
  rcases step_cases s with ⟨-, hx, e⟩ | ⟨-, hx, e⟩ | ⟨_, hs, -⟩ | ⟨i, v, _, hs, -⟩ | ⟨base, bytes, _, hs, -⟩
  · rw [e, hx]; rfl
  · rw [e, hx]; rfl
  all_goals
    rw [State.coresTurn, hs] at h
    cases h

theorem step_of_interruptTurn {s : State} {rest : List Turn} (h : s.sched = .interrupt :: rest) :
    step s = .next ({ s with sched := rest } : State).interrupt := by
  simp only [step, State.nextTurn, h, State.takeTurn, List.tail_cons]

theorem step_of_writePortTurn {s : State} {i : Fin 8} {v : Byte} {rest : List Turn} (h : s.sched = .writePort i v :: rest) :
    step s = .next (({ s with sched := rest } : State).writePort i v) := by
  simp only [step, State.nextTurn, h, State.takeTurn, List.tail_cons]

theorem step_of_loadTurn {s : State} {base : Nat} {bytes : List Byte} {rest : List Turn} (h : s.sched = .load base bytes :: rest) :
    step s = ({ s with sched := rest } : State).load base bytes := by
  simp only [step, State.nextTurn, h, State.takeTurn, List.tail_cons]

/-- Settles O4: the three bytes at `pc` decode to `decode` of them, which is what the core fetches. -/
theorem stepRunsFetchedInstruction : Obligations.StepRunsFetchedInstruction := by
  intro s i rest hx hturn hdec _
  rw [decodeBytes_three] at hdec
  have hi : s.fetch = i := congrArg Prod.fst (Except.ok.inj hdec)
  rw [step_of_coresTurn hturn, if_neg (Bool.eq_false_iff.mp hx), hi, State.beginStep]

/-- Settles O5: the core's turn is a fault, and `interrupt` asks for the end of the run before anything else. -/
theorem nothingRunsAfterExit : Obligations.NothingRunsAfterExit := by
  refine ⟨fun s hx hturn => ?_, fun s rest hx hs => ?_⟩
  · rw [step_of_coresTurn hturn, hx]
    rfl
  · rw [step_of_interruptTurn hs, State.interrupt, if_pos hx]

/-! ### The interrupt controller -/

theorem interrupt_of_inte_false {s : State} (h : s.inte = false) : s.interrupt = s := by
  rcases interrupt_cases s with ⟨-, e⟩ | ⟨-, hi, -⟩
  · exact e
  · rw [h] at hi
    cases hi

theorem interrupt_accepted {s : State} (hx : s.exit = false) (hi : s.inte = true) : s.interrupt = s.enterInterrupt := by
  rcases interrupt_cases s with ⟨hx' | hi', -⟩ | ⟨-, -, e⟩
  · rw [hx] at hx'
    cases hx'
  · rw [hi] at hi'
    cases hi'
  · exact e

/-- Settles O46: the state EI leaves is one in which `interrupt` is accepted. -/
theorem interruptEnableDisable : Obligations.InterruptEnableDisable := by
  intro s
  refine ⟨⟨s.setInte true, rfl, rfl, fun hx => ?_⟩, rfl⟩
  have hsp : s.sp - 1#16 - 1#16 = s.sp - 2#16 := by bv_omega
  rw [interrupt_accepted (show (s.setInte true).exit = false from hx) rfl, enterInterrupt_inte, enterInterrupt_sp]
  exact ⟨rfl, hsp⟩

/-- Settles O52: but for `inte`, `pc` and `ivsel`, the entry is a push of `pc`. -/
theorem interruptController : Obligations.InterruptController := by
  intro s
  refine ⟨interrupt_of_inte_false, fun hx hi => ?_⟩
  rw [interrupt_accepted hx hi]
  refine ⟨?_, ?_, enterInterrupt_inte s, enterInterrupt_ivsel s⟩
  · obtain ⟨hsp, hmem, -⟩ := push16_pushed s s.pc
    exact ⟨hsp, hmem, by ext1 <;> simp⟩
  · rw [enterInterrupt_pc]
    cases s.ivsel <;> rfl

/-- Settles O53: an accepted interrupt clears `inte` and toggles `ivsel`. -/
theorem interruptVectorsAlternate : Obligations.InterruptVectorsAlternate := by
  intro s u hx hi
  rw [interrupt_accepted hx hi]
  refine ⟨interrupt_of_inte_false (enterInterrupt_inte s), fun hux hui hsel => ?_⟩
  rw [enterInterrupt_ivsel] at hsel
  rw [interrupt_accepted hux hui, enterInterrupt_pc, enterInterrupt_pc, hsel]
  cases s.ivsel <;> decide

/-! ### The host's actions -/

/-- What is read after `load` (rule R312): the bytes loaded where they were loaded, the old bytes elsewhere. -/
theorem readByte_writeAll (s : State) (base : Nat) (bytes : List Byte) (x : Word) :
    ({ s with mem := Memory.writeAll s.mem base bytes } : State).readByte x =
      if h : base ≤ x.toNat ∧ x.toNat < base + bytes.length then bytes[x.toNat - base]'(by omega) else s.readByte x := by
  split
  next h =>
    have hread := Memory.read_writeAll_inside s.mem base bytes (k := x.toNat - base) (by omega)
    rwa [Nat.add_sub_of_le h.1] at hread
  next h => exact Memory.read_writeAll_outside s.mem base bytes (by omega)

/-- Settles O54: each host turn is its action, whose law says what it changes. -/
theorem hostTurns : Obligations.HostTurns := by
  intro s rest
  refine ⟨step_of_interruptTurn, fun i v hs => ⟨_, step_of_writePortTurn hs, rfl, fun j => ?_⟩, fun base bytes hs => ?_⟩
  · rw [writePort_ports]
    simp only [Fin.getElem_fin, Vector.getElem_set, Fin.val_inj, eq_comm]
  · rw [step_of_loadTurn hs]
    rcases load_cases { s with sched := rest } base bytes with ⟨hst, e⟩ | ⟨hst, hlen, e⟩ | ⟨hst, hlen, e⟩
    · rw [if_pos hst, e]
    · rw [if_neg (Bool.eq_false_iff.mp hst), if_neg (by omega), e]
    · rw [if_neg (Bool.eq_false_iff.mp hst), if_pos hlen, e]
      exact ⟨_, rfl, rfl, readByte_writeAll { s with sched := rest } base bytes⟩

end Sys2Proof.Machine
end

section
/-! What an instruction can do, said once for all instructions: `Effect` lists the shapes of the states `exec` answers with, each
with the rows of the tables of Safety.lean that its instructions have. The frames of the whole machine and its invariants are case
splits over these shapes. -/

namespace Sys2Proof.Machine

/-! ### Rows of the tables, for the families whose instructions differ in them -/

/-- The row of a flag table entry that writes every flag. -/
def allFlags : Flags := { cy := true, z := true, s := true, p := true, ac := true }

/-- The row of an entry that writes every flag but CY (rules R154, R155). -/
def allButCy : Flags := { allFlags with cy := false }

/-- The row of an entry that writes CY alone (rules R158, R170, R221, R222). -/
def cyOnly : Flags := { cy := true, z := false, s := false, p := false, ac := false }

/-- The registers a 16-bit operand is made of. -/
def pairHalves : RP → List R8
  | .bc => [.b, .c]
  | .de => [.d, .e]
  | .hl => [.h, .l]
  | .sp => []

theorem instrRegWrites_ofMov {dst : R8} (src : R8) (h : dst ≠ .m) : instrRegWrites (.ofMov dst src) = [dst] := by
  cases dst
  case m => exact absurd rfl h
  all_goals cases src <;> rfl

theorem instrStores_ofMov_m (s : State) {src : R8} (h : src ≠ .m) : instrStores (.ofMov .m src) s = [s.hl] := by
  cases src
  case m => exact absurd rfl h
  all_goals rfl

/-- MVI, INR and DCR write their operand. -/
theorem instrRegWrites_oneOperand {dst : R8} (imm : Byte) (h : dst ≠ .m) :
    instrRegWrites (.ofMvi dst imm) = [dst] ∧ instrRegWrites (.ofInr dst) = [dst] ∧ instrRegWrites (.ofDcr dst) = [dst] := by
  cases dst
  case m => exact absurd rfl h
  all_goals exact ⟨rfl, rfl, rfl⟩

/-- An ALU operation but compare writes A. -/
theorem instrRegWrites_alu {op : AluOp} (r : R8) (imm : Byte) (h : aluKeepsA op = false) :
    instrRegWrites (.ofAlu op r) = [.a] ∧ instrRegWrites (.ofAluImm op imm) = [.a] := by
  cases op
  case cmp => cases h
  all_goals cases r <;> exact ⟨rfl, rfl⟩

theorem instrStores_ofCcc {s : State} {cc : Cond} (w : Word) (h : condHolds cc s.flags = true) :
    instrStores (.ofCcc cc w) s = s.pushAddrs := by
  cases cc <;> exact if_pos h

/-! ### The shapes -/

/-- The state an instruction `i` that completes from `s` can leave. A hypothesis on `i` is the row, in one of the tables of
Safety.lean, of every instruction that has this shape, or it names the one instruction or two that have it. -/
inductive Effect (i : Instr) (s : State) : State → Prop
  /-- control goes on, and nothing else happens -/
  | goto (w : Word) : Effect i s (s.setPc w)
  /-- a register is written -/
  | writeReg {r : R8} (v : Byte) (n : Word) (hr : r ≠ .m) (regs : instrRegWrites i = [r]) : Effect i s ((s.set8 r v).advance n)
  /-- a byte is stored -/
  | storeByte (addr : Word) (v : Byte) (n : Word) (stores : instrStores i s = [addr]) : Effect i s ((s.writeByte addr v).advance n)
  /-- INR and DCR -/
  | step8 (r : R8) (v : Byte) (stores : r = .m → instrStores i s = [s.hl]) (regs : r ≠ .m → instrRegWrites i = [r])
      (flags : instrFlagWrites i = allButCy) : Effect i s (((s.set8 r v).stepFlags v).advance 1#16)
  /-- an ALU operation -/
  | alu (op : AluOp) (y : Byte) (n : Word) (regs : aluKeepsA op = false → instrRegWrites i = [.a])
      (flags : instrFlagWrites i = allFlags) : Effect i s ((s.alu op y).advance n)
  /-- a rotate -/
  | rotate (v : Byte) (cy : Bool) (regs : instrRegWrites i = [.a]) (flags : instrFlagWrites i = cyOnly) :
      Effect i s ((State.setCy cy { s with a := v }).advance 1#16)
  /-- STC and CMC -/
  | carry (cy : Bool) (flags : instrFlagWrites i = cyOnly) : Effect i s ((s.setCy cy).advance 1#16)
  /-- DAA -/
  | daa (hi : i = .daa) (v : Byte) (f : Flags) : Effect i s (State.advance 1#16 { s with a := v, flags := f })
  /-- a pair or `sp` is written -/
  | write16 (p : RP) (v n : Word) (regs : instrRegWrites i = pairHalves p) (sp : p = .sp → instrWritesSp i = true) :
      Effect i s ((s.set16 p v).advance n)
  /-- DAD -/
  | dad (v : Word) (cy : Bool) (regs : instrRegWrites i = [.h, .l]) (flags : instrFlagWrites i = cyOnly) :
      Effect i s (((s.setHl v).setCy cy).advance 1#16)
  /-- XCHG -/
  | xchg (hi : i = .xchg) (v w : Word) : Effect i s (((s.setHl v).setDe w).advance 1#16)
  /-- SHLD -/
  | shld (w : Word) (hi : i = .shld w) : Effect i s ((s.writeWord w s.hl).advance 3#16)
  /-- XTHL -/
  | xthl (hi : i = .xthl) : Effect i s (((s.writeWord s.sp s.hl).setHl s.top).advance 1#16)
  /-- a word is pushed: PUSH, the calls and RST -/
  | push (v w : Word) (stores : instrStores i s = s.pushAddrs) (sp : instrWritesSp i = true) : Effect i s (s.callTo v w)
  /-- POP -/
  | pop (p : StackPair) (hi : i = .ofPop p) : Effect i s ((s.drop.setStack p s.top).advance 1#16)
  /-- a return -/
  | ret (sp : instrWritesSp i = true) : Effect i s s.popPc
  /-- EI and DI -/
  | setInte (v : Bool) (hi : i = .ei ∨ i = .di) : Effect i s (State.advance 1#16 { s with inte := v })
  /-- OUT to a port of the shift register -/
  | shift (p : Byte) (hi : i = .outPort p) (shHi shLo : Byte) (shOff : BitVec 3) :
      Effect i s (State.advance 2#16 { s with shHi := shHi, shLo := shLo, shOff := shOff })
  /-- a CALL the diagnostic intercept claims -/
  | emit (w : Word) (hi : i = .call w) (hd : s.diagEnabled = true) (vs : List Byte) : Effect i s (s.emit vs)
  /-- the end of the run -/
  | terminate (cause : Cause) (info : Info) (ends : instrMayEnd i = some cause) (hc : cause ≠ .running) :
      Effect i s (s.terminate cause info)

/-- `exec` completes with one of the shapes, or it is the diagnostic string with no sentinel (rule R257, decision D29). -/
def Answers (i : Instr) (s : State) : Prop :=
  (∃ t, exec i s = .next t ∧ Effect i s t) ∨
    (i = .call 0x0005#16 ∧ s.diagEnabled = true ∧ s.c = 0x09#8 ∧ (∀ x, s.readByte x ≠ 0x24#8) ∧
      exec i s = .refused .diagStringUnterminated)

theorem Effect.answers {i : Instr} {s t : State} (e : Effect i s t) (h : exec i s = .next t) : Answers i s :=
  .inl ⟨t, h, e⟩

/-! ### The families that have more than one shape -/

theorem answers_ofMov (s : State) (dst src : R8) : Answers (.ofMov dst src) s := by
  by_cases hd : dst = .m
  · subst hd
    by_cases hs : src = .m
    · subst hs
      exact (Effect.goto (s.pc + 1#16)).answers rfl
    · exact (Effect.storeByte s.hl _ 1#16 (instrStores_ofMov_m s hs)).answers (exec_ofMov s fun h => hs h.2)
  · exact (Effect.writeReg _ 1#16 hd (instrRegWrites_ofMov src hd)).answers (exec_ofMov s fun h => hd h.1)

theorem answers_ofMvi (s : State) (dst : R8) (imm : Byte) : Answers (.ofMvi dst imm) s := by
  by_cases hd : dst = .m
  · subst hd
    exact (Effect.storeByte s.hl imm 2#16 rfl).answers rfl
  · exact (Effect.writeReg imm 2#16 hd (instrRegWrites_oneOperand imm hd).1).answers (exec_ofMvi s dst imm)

theorem answers_jmp (s : State) (w : Word) : Answers (.jmp w) s := by
  rcases jumpTo_cases s .jmp 0xC3#8 w with ⟨-, -, e⟩ | ⟨-, e⟩
  · exact (Effect.terminate .resetJump (.opcode 0xC3#8) rfl (by decide)).answers (congrArg Host.Outcome.next e)
  · exact (Effect.goto w).answers (congrArg Host.Outcome.next e)

theorem answers_ofJcc (s : State) (cc : Cond) (w : Word) : Answers (.ofJcc cc w) s := by
  obtain ⟨op, -, hexec⟩ := exec_ofJcc s cc w
  rcases jumpIf_cases s cc op w with ⟨-, -, e⟩ | ⟨-, -, e⟩ | ⟨-, e⟩ <;> rw [e] at hexec
  · exact (Effect.terminate .resetJump (.opcode op) (by cases cc <;> rfl) (by decide)).answers hexec
  · exact (Effect.goto w).answers hexec
  · exact (Effect.goto (s.pc + 3#16)).answers hexec

theorem answers_ofCcc (s : State) (cc : Cond) (w : Word) : Answers (.ofCcc cc w) s := by
  have hexec := exec_ofCcc s cc w
  rcases callIf_cases s cc w with ⟨hc, e⟩ | ⟨-, e⟩ <;> rw [e] at hexec
  · exact (Effect.push _ w (instrStores_ofCcc w hc) (by cases cc <;> rfl)).answers hexec
  · exact (Effect.goto (s.pc + 3#16)).answers hexec

theorem answers_ofRcc (s : State) (cc : Cond) : Answers (.ofRcc cc) s := by
  have hexec := exec_ofRcc s cc
  rcases retIf_cases s cc with ⟨-, e⟩ | ⟨-, e⟩ <;> rw [e] at hexec
  · exact (Effect.ret (by cases cc <;> rfl)).answers hexec
  · exact (Effect.goto (s.pc + 1#16)).answers hexec

theorem answers_call (s : State) (w : Word) : Answers (.call w) s := by
  rcases exec_call_cases s w with ⟨hc, e⟩ | ⟨hd, rfl, -, e⟩
  · have stores : instrStores (.call w) s = s.pushAddrs := if_neg (Bool.eq_false_iff.mp hc)
    exact (Effect.push (s.pc + 3#16) w stores rfl).answers e
  · rcases intercept_cases s with ⟨vs, e'⟩ | ⟨hc, hnone, e'⟩
    · exact (Effect.emit _ rfl hd vs).answers (e.trans e')
    · exact .inr ⟨rfl, hd, hc, hnone, e.trans e'⟩

theorem answers_inPort (s : State) (p : Byte) : Answers (.inPort p) s := by
  have reads {v : Byte} (e : s.inFrom p = s.input v) : Answers (.inPort p) s :=
    (Effect.writeReg (r := .a) v 2#16 (by decide) rfl).answers (congrArg Host.Outcome.next e)
  rcases inFrom_cases s p with ⟨-, e⟩ | ⟨-, e⟩ | ⟨-, e⟩ | ⟨-, e⟩ | ⟨-, e⟩
  case inr.inr.inr.inr =>
    exact (Effect.terminate .unsupportedOpcode (.port .input p) rfl (by decide)).answers (congrArg Host.Outcome.next e)
  all_goals exact reads e

theorem answers_outPort (s : State) (p : Byte) : Answers (.outPort p) s := by
  rcases outTo_cases s p with ⟨-, e⟩ | ⟨-, e⟩ | ⟨-, e⟩ | ⟨-, e⟩
  · exact (Effect.shift p rfl s.shHi s.shLo _).answers (congrArg Host.Outcome.next e)
  · exact (Effect.shift p rfl s.a s.shHi s.shOff).answers (congrArg Host.Outcome.next e)
  · exact (Effect.goto (s.pc + 2#16)).answers (congrArg Host.Outcome.next e)
  · exact (Effect.terminate .unsupportedOpcode (.port .output p) rfl (by decide)).answers (congrArg Host.Outcome.next e)

/-! ### Every instruction -/

/-- What an instruction can answer, family by family. -/
theorem exec_answers (i : Instr) (s : State) : Answers i s := by
  induction i using Instr.byFamily with
  | mov dst src => exact answers_ofMov s dst src
  | alu op r =>
    exact (Effect.alu op _ 1#16 (fun h => (instrRegWrites_alu r 0#8 h).1) (by cases op <;> cases r <;> rfl)).answers
      (exec_ofAlu s op r)
  | aluImm op imm =>
    exact (Effect.alu op imm 2#16 (fun h => (instrRegWrites_alu .a imm h).2) (by cases op <;> rfl)).answers
      (exec_ofAluImm s op imm)
  | mvi dst imm => exact answers_ofMvi s dst imm
  | inr dst =>
    have regs := fun h => (instrRegWrites_oneOperand (dst := dst) 0#8 h).2.1
    exact (Effect.step8 dst _ (fun h => h ▸ rfl) regs (by cases dst <;> rfl)).answers (exec_ofInr s dst)
  | dcr dst =>
    have regs := fun h => (instrRegWrites_oneOperand (dst := dst) 0#8 h).2.2
    exact (Effect.step8 dst _ (fun h => h ▸ rfl) regs (by cases dst <;> rfl)).answers (exec_ofDcr s dst)
  | lxi p w => exact (Effect.write16 p w 3#16 (by cases p <;> rfl) (fun h => h ▸ rfl)).answers (exec_ofLxi s p w)
  | inx p => exact (Effect.write16 p _ 1#16 (by cases p <;> rfl) (fun h => h ▸ rfl)).answers (exec_ofInx s p)
  | dcx p => exact (Effect.write16 p _ 1#16 (by cases p <;> rfl) (fun h => h ▸ rfl)).answers (exec_ofDcx s p)
  | dad p => exact (Effect.dad _ _ (by cases p <;> rfl) (by cases p <;> rfl)).answers (exec_ofDad s p)
  | push p => exact (Effect.push _ (s.pc + 1#16) (by cases p <;> rfl) (by cases p <;> rfl)).answers (exec_ofPush s p)
  | pop p => exact (Effect.pop p rfl).answers (exec_ofPop s p)
  | jcc cc w => exact answers_ofJcc s cc w
  | ccc cc w => exact answers_ofCcc s cc w
  | rcc cc => exact answers_ofRcc s cc
  | rst n =>
    have stores : instrStores (.ofRst n.val) s = s.pushAddrs := by cases n using field3_cases <;> rfl
    have sp : instrWritesSp (.ofRst n.val) = true := by cases n using field3_cases <;> rfl
    exact (Effect.push (s.pc + 1#16) _ stores sp).answers (exec_ofRst s n)
  | nop | hlt => exact (Effect.goto (s.pc + 1#16)).answers rfl
  | pchl => exact (Effect.goto s.hl).answers rfl
  | jmp w => exact answers_jmp s w
  | call w => exact answers_call s w
  | ret => exact (Effect.ret rfl).answers rfl
  | lda w => exact (Effect.writeReg (r := .a) (s.readByte w) 3#16 (by decide) rfl).answers rfl
  | ldaxB => exact (Effect.writeReg (r := .a) (s.readByte s.bc) 1#16 (by decide) rfl).answers rfl
  | ldaxD => exact (Effect.writeReg (r := .a) (s.readByte s.de) 1#16 (by decide) rfl).answers rfl
  | cma => exact (Effect.writeReg (r := .a) (~~~s.a) 1#16 (by decide) rfl).answers rfl
  | sta w => exact (Effect.storeByte w s.a 3#16 rfl).answers rfl
  | staxB => exact (Effect.storeByte s.bc s.a 1#16 rfl).answers rfl
  | staxD => exact (Effect.storeByte s.de s.a 1#16 rfl).answers rfl
  | lhld w => exact (Effect.write16 .hl (s.readWord w) 3#16 rfl nofun).answers rfl
  | sphl => exact (Effect.write16 .sp s.hl 1#16 rfl fun _ => rfl).answers rfl
  | shld w => exact (Effect.shld w rfl).answers rfl
  | xthl => exact (Effect.xthl rfl).answers rfl
  | xchg => exact (Effect.xchg rfl s.de s.hl).answers rfl
  | rlc | rrc | ral | rar => exact (Effect.rotate _ _ rfl rfl).answers rfl
  | stc | cmc => exact (Effect.carry _ rfl).answers rfl
  | daa => exact (Effect.daa rfl _ _).answers rfl
  | ei => exact (Effect.setInte true (.inl rfl)).answers rfl
  | di => exact (Effect.setInte false (.inr rfl)).answers rfl
  | inPort p => exact answers_inPort s p
  | outPort p => exact answers_outPort s p
  | undefinedOp op => exact (Effect.terminate .unsupportedOpcode (.opcode op) rfl (by decide)).answers rfl

/-- The inversion of `exec`: a state it answers with is one of the shapes. -/
theorem effect_of_exec {i : Instr} {s t : State} (h : exec i s = .next t) : Effect i s t := by
  rcases exec_answers i s with ⟨t', h', e⟩ | ⟨-, -, -, -, h'⟩
  · obtain rfl : t' = t := Host.Outcome.next.inj (h'.symm.trans h)
    exact e
  · rw [h] at h'
    cases h'

/-- Settles O55: the shape of the answer is forgotten. -/
theorem everyInstructionCompletes : Obligations.EveryInstructionCompletes := by
  intro i s
  exact (exec_answers i s).imp_left fun ⟨t, h, _⟩ => ⟨t, h⟩

end Sys2Proof.Machine
end

section
/-! The frames of all instructions, from their shapes: in each, the shapes that touch the piece of state in question are named, and
the others leave it by the field lemmas of Laws/State.lean. -/

namespace Sys2Proof.Machine

/-! ### Memory -/

theorem readByte_of_mem_eq {s t : State} (h : t.mem = s.mem) (x : Word) : t.readByte x = s.readByte x := by
  rw [State.readByte, State.readByte, h]

/-- Settles O56: a shape that stores does so at the addresses of its row. -/
theorem memoryFrame : Obligations.MemoryFrame := by
  intro i s t h x hx
  cases effect_of_exec h with
  | storeByte addr v n stores =>
    rw [stores, List.mem_singleton] at hx
    rw [readByte_advance, readByte_writeByte, if_neg hx]
  | step8 r v stores =>
    refine readByte_set8_of_ne s v fun ⟨hr, hxs⟩ => ?_
    rw [stores hr, List.mem_singleton] at hx
    exact hx hxs
  | shld w hi =>
    subst hi
    have ⟨h0, h1⟩ : x ≠ w ∧ x ≠ w + 1#16 := by simpa [instrStores] using hx
    rw [readByte_advance, readByte_writeWord_hl, if_neg h0, if_neg h1]
  | xthl hi =>
    subst hi
    have ⟨h0, h1⟩ : x ≠ s.sp ∧ x ≠ s.sp + 1#16 := by simpa [instrStores] using hx
    exact (readByte_writeWord_hl s s.sp x).trans (by rw [if_neg h0, if_neg h1])
  | push v w stores =>
    have ⟨h1, h2⟩ : x ≠ s.sp - 1#16 ∧ x ≠ s.sp - 2#16 := by simpa [stores, State.pushAddrs] using hx
    obtain ⟨-, hmem, -⟩ := callTo_pushed s v w
    rw [hmem, if_neg h1, if_neg h2]
  | writeReg v n hr => exact readByte_set8 s v x hr
  | _ => exact readByte_of_mem_eq (by simp) x

/-! ### Registers and `sp` -/

/-- A register reads the same in two states that agree on its field. -/
theorem get8_of_fields {s t : State} {r : R8} (hm : r ≠ .m) (ha : r = .a → t.a = s.a) (hb : r = .b → t.b = s.b)
    (hc : r = .c → t.c = s.c) (hd : r = .d → t.d = s.d) (he : r = .e → t.e = s.e) (hh : r = .h → t.h = s.h)
    (hl : r = .l → t.l = s.l) : t.get8 r = s.get8 r := by
  cases r with
  | m => exact absurd rfl hm
  | a => exact ha rfl
  | b => exact hb rfl
  | c => exact hc rfl
  | d => exact hd rfl
  | e => exact he rfl
  | h => exact hh rfl
  | l => exact hl rfl

theorem get8_set16_of_not_mem (s : State) {p : RP} {r : R8} (v : Word) (hm : r ≠ .m) (hr : r ∉ pairHalves p) :
    (s.set16 p v).get8 r = s.get8 r := by
  cases p <;> apply get8_of_fields hm <;> rintro rfl <;> simp_all [pairHalves, State.set16]

theorem alu_a_of_keepsA (s : State) {op : AluOp} (y : Byte) (h : aluKeepsA op = true) : (s.alu op y).a = s.a := by
  simp only [State.alu, drawAc_a, h, if_true]

theorem exec_keeps_get8 {i : Instr} {s t : State} (h : exec i s = .next t) {r : R8} (hm : r ≠ .m) (hr : r ∉ instrRegWrites i) :
    t.get8 r = s.get8 r := by
  cases effect_of_exec h with
  | writeReg v n hne regs =>
    rw [regs, List.mem_singleton] at hr
    rw [get8_advance, get8_set8_other s v hm hr]
  | step8 q v stores regs =>
    have hne : r ≠ q := by
      by_cases hq : q = .m
      · exact hq ▸ hm
      · rwa [regs hq, List.mem_singleton] at hr
    rw [get8_advance, get8_stepFlags, get8_set8_other s v hm hne]
  | alu op y n regs =>
    have hA : r = .a → ((s.alu op y).advance n).a = s.a := by
      rintro rfl
      rw [advance_a]
      cases hk : aluKeepsA op
      · exact absurd (regs hk ▸ List.mem_singleton_self _) hr
      · exact alu_a_of_keepsA s y hk
    apply get8_of_fields hm hA <;> simp
  | rotate v cy regs =>
    rw [regs, List.mem_singleton] at hr
    apply get8_of_fields hm <;> simp [hr]
  | daa hi =>
    have hne : r ≠ .a := by simpa [hi, instrRegWrites] using hr
    apply get8_of_fields hm <;> simp [hne]
  | write16 p v n regs =>
    rw [regs] at hr
    rw [get8_advance, get8_set16_of_not_mem s v hm hr]
  | dad v cy regs =>
    have ⟨hH, hL⟩ : r ≠ .h ∧ r ≠ .l := by simpa [regs] using hr
    apply get8_of_fields hm <;> simp [hH, hL]
  | xchg hi v w =>
    have ⟨hD, hE, hH, hL⟩ : r ≠ .d ∧ r ≠ .e ∧ r ≠ .h ∧ r ≠ .l := by simpa [hi, instrRegWrites] using hr
    apply get8_of_fields hm <;> simp [hD, hE, hH, hL]
  | xthl hi =>
    have ⟨hH, hL⟩ : r ≠ .h ∧ r ≠ .l := by simpa [hi, instrRegWrites] using hr
    apply get8_of_fields hm <;> simp [hH, hL]
  | pop p hi =>
    subst hi
    cases p <;> apply get8_of_fields hm <;> rintro rfl <;>
      simp_all [Instr.ofPop, instrRegWrites, State.setStack]
  | _ => apply get8_of_fields hm <;> simp

theorem exec_keeps_sp {i : Instr} {s t : State} (h : exec i s = .next t) (hsp : instrWritesSp i = false) : t.sp = s.sp := by
  cases effect_of_exec h with
  | write16 p v n regs sp =>
    cases p
    case sp => rw [sp rfl] at hsp; cases hsp
    all_goals rfl
  | push v w stores sp | ret sp => rw [sp] at hsp; cases hsp
  | pop p hi =>
    subst hi
    cases p <;> cases hsp
  | _ => simp

/-- Settles O57: the registers and `sp` are the two lemmas above. -/
theorem registerFrame : Obligations.RegisterFrame := by
  intro i s t h
  exact ⟨fun r hm hr => exec_keeps_get8 h hm hr, exec_keeps_sp h⟩

/-! ### Flags -/

/-- Settles O58: a shape that writes flags has its row, which rules the other flags' hypotheses out. -/
theorem flagFrame : Obligations.FlagFrame := by
  intro i s t h
  cases effect_of_exec h with
  | step8 r v stores regs flags => simp [flags, allButCy, allFlags, State.stepFlags, State.drawAc, zspFlags]
  | alu op y n regs flags => simp [flags, allFlags]
  | rotate v cy regs flags => simp [flags, cyOnly, State.setCy]
  | carry cy flags => simp [flags, cyOnly, State.setCy]
  | dad v cy regs flags => simp [flags, cyOnly, State.setCy]
  | daa hi => simp [hi, instrFlagWrites]
  | pop p hi =>
    subst hi
    cases p
    case psw => simp [Instr.ofPop, instrFlagWrites]
    all_goals exact ⟨fun _ => rfl, fun _ => rfl, fun _ => rfl, fun _ => rfl, fun _ => rfl⟩
  | _ => simp

/-! ### Control and peripherals -/

/-- Settles O59: three shapes touch these pieces of state, each of one instruction or two. -/
theorem controlAndPeripheralFrame : Obligations.ControlAndPeripheralFrame := by
  intro i s t h
  cases effect_of_exec h with
  | setInte v hi => rcases hi with hi | hi <;> simp [hi]
  | shift p hi => simp [hi]
  | emit w hi => simp [hi]
  | _ => simp

/-- The diagnostic buffer grows at its end, and only in diagnostic-console mode (rules R41, R260). -/
theorem exec_diag {i : Instr} {s t : State} (h : exec i s = .next t) :
    t.diag = s.diag ∨ (s.diagEnabled = true ∧ ∃ vs, t.diag = s.diag ++ vs) := by
  cases effect_of_exec h with
  | emit w hi hd vs => exact .inr ⟨hd, vs, emit_diag s vs⟩
  | _ => exact .inl (by simp)

/-! ### The end of the run -/

/-- An instruction either leaves the run as it is or terminates it, with a cause its row allows. -/
theorem exec_end {i : Instr} {s t : State} (h : exec i s = .next t) :
    (t.exit = s.exit ∧ t.cause = s.cause ∧ t.info = s.info) ∨
      (∃ cause info, instrMayEnd i = some cause ∧ cause ≠ .running ∧ t = s.terminate cause info) := by
  cases effect_of_exec h with
  | terminate cause info ends hc => exact .inr ⟨cause, info, ends, hc, rfl⟩
  | _ => exact .inl (by simp)

/-- Settles O60: the termination of `exec_end` is everything `endedBy` says. -/
theorem onlyTheseEndTheRun : Obligations.OnlyTheseEndTheRun := by
  intro i s t h
  refine (exec_end h).imp_right fun ⟨cause, info, ends, _, e⟩ => ⟨cause, info, ends, ?_⟩
  rw [e]
  exact terminate_endedBy s cause info

end Sys2Proof.Machine
end

section
/-! What every step keeps: the invariant of a run, and what only grows. Each follows from what a core step keeps, by the frames of
`exec`, and what each host action keeps, by `step_cases`. -/

namespace Sys2Proof.Machine

/-! ### The invariant of a run -/

/-- The invariant goes on when the end of the run and the mode are as they were and the buffer is filled in the mode only. -/
theorem State.Inv.of_kept {s t : State} (h : s.Inv) (hmem : t.mem.wf = true)
    (hend : t.exit = s.exit ∧ t.cause = s.cause ∧ t.info = s.info) (hd : t.diagEnabled = s.diagEnabled)
    (hdiag : s.diagEnabled = false → t.diag = s.diag) : t.Inv := by
  obtain ⟨hx, hc, hi⟩ := hend
  refine ⟨hmem, ?_, ?_, fun ht => ?_⟩
  · rw [hx, hc]
    exact h.exitIffCause
  · rw [hi, hx]
    exact h.infoIffExit
  · rw [hd] at ht
    exact (hdiag ht).trans (h.diagQuiet ht)

theorem State.Inv.terminate {s : State} (h : s.Inv) {cause : Cause} (info : Info) (hc : cause ≠ .running) :
    (s.terminate cause info).Inv :=
  ⟨h.memWf, iff_of_true rfl hc, rfl, h.diagQuiet⟩

theorem State.Inv.beginStep {s : State} (h : s.Inv) : s.beginStep.Inv :=
  h.of_kept h.memWf ⟨rfl, rfl, rfl⟩ rfl fun _ => rfl

theorem State.Inv.takeTurn {s : State} (h : s.Inv) : s.takeTurn.Inv :=
  h.of_kept h.memWf ⟨rfl, rfl, rfl⟩ rfl fun _ => rfl

theorem State.Inv.writePort {s : State} (h : s.Inv) (i : Fin 8) (v : Byte) : (s.writePort i v).Inv :=
  h.of_kept h.memWf ⟨rfl, rfl, rfl⟩ rfl fun _ => rfl

theorem State.Inv.interrupt {s : State} (h : s.Inv) : s.interrupt.Inv := by
  rcases interrupt_cases s with ⟨-, e⟩ | ⟨-, -, e⟩ <;> rw [e]
  · exact h
  · exact h.of_kept (wf_push16 s.pc h.memWf) ⟨by simp, by simp, by simp⟩ (by simp) fun _ => by simp

theorem State.Inv.of_load {s t : State} (h : s.Inv) {base : Nat} {bytes : List Byte} (ht : s.load base bytes = .next t) :
    t.Inv := by
  rcases load_cases s base bytes with ⟨-, e⟩ | ⟨-, -, e⟩ | ⟨-, hlen, e⟩ <;> rw [e] at ht
  · cases ht
  · cases ht
  · cases ht
    exact h.of_kept (Memory.wf_writeAll bytes h.memWf hlen) ⟨rfl, rfl, rfl⟩ rfl fun _ => rfl

theorem exec_keeps_memWf {i : Instr} {s t : State} (h : exec i s = .next t) (hwf : s.mem.wf = true) : t.mem.wf = true := by
  cases effect_of_exec h with
  | writeReg v n => exact wf_set8 _ v hwf
  | storeByte addr v n => exact wf_writeByte addr v hwf
  | step8 r v => exact wf_set8 r v hwf
  | shld w => exact wf_writeWord w s.hl hwf
  | xthl => exact wf_writeWord s.sp s.hl hwf
  | push v w => exact wf_push16 v hwf
  | _ => simpa using hwf

theorem exec_keeps_diagEnabled {i : Instr} {s t : State} (h : exec i s = .next t) : t.diagEnabled = s.diagEnabled := by
  obtain ⟨-, -, -, -, -, hd, -⟩ := controlAndPeripheralFrame i s t h
  exact hd

theorem State.Inv.of_exec {i : Instr} {s t : State} (h : s.Inv) (ht : exec i s = .next t) : t.Inv := by
  have hdiag : s.diagEnabled = false → t.diag = s.diag := fun hoff =>
    (exec_diag ht).resolve_right fun ⟨hon, _⟩ => absurd (hon.symm.trans hoff) (by decide)
  rcases exec_end ht with hend | ⟨cause, info, -, hc, e⟩
  · exact h.of_kept (exec_keeps_memWf ht h.memWf) hend (exec_keeps_diagEnabled ht) hdiag
  · rw [e]
    exact h.terminate info hc

/-- Settles O8: turn by turn. -/
theorem everyStepKeepsInvariant : Obligations.EveryStepKeepsInvariant := by
  intro s t h ht
  rcases step_cases s with ⟨-, -, e⟩ | ⟨-, -, e⟩ | ⟨_, -, e⟩ | ⟨i, v, _, -, e⟩ | ⟨base, bytes, _, -, e⟩ <;>
    rw [e] at ht
  · cases ht
  · exact h.beginStep.of_exec ht
  · cases ht
    exact h.takeTurn.interrupt
  · cases ht
    exact h.takeTurn.writePort i v
  · exact h.takeTurn.of_load ht

/-! ### What only grows -/

/-- The buffer has only grown at its end, an ended run has stayed ended, and the mode is the same (rules R36, R255, R260). -/
def State.GrownTo (s t : State) : Prop :=
  (∃ vs, t.diag = s.diag ++ vs) ∧ (s.exit = true → t.exit = true) ∧ t.diagEnabled = s.diagEnabled

theorem State.GrownTo.of_kept {s t : State} (hdiag : t.diag = s.diag) (hx : t.exit = s.exit) (hd : t.diagEnabled = s.diagEnabled) :
    s.GrownTo t :=
  ⟨⟨[], by rw [hdiag, List.append_nil]⟩, fun h => hx.trans h, hd⟩

theorem grownTo_interrupt (s : State) : s.GrownTo s.interrupt := by
  rcases interrupt_cases s with ⟨-, e⟩ | ⟨-, -, e⟩ <;> rw [e]
  · exact .of_kept rfl rfl rfl
  · exact .of_kept (by simp) (by simp) (by simp)

theorem grownTo_load {s t : State} {base : Nat} {bytes : List Byte} (ht : s.load base bytes = .next t) : s.GrownTo t := by
  rcases load_cases s base bytes with ⟨-, e⟩ | ⟨-, -, e⟩ | ⟨-, -, e⟩ <;> rw [e] at ht <;> cases ht
  exact .of_kept rfl rfl rfl

theorem grownTo_exec {i : Instr} {s t : State} (ht : exec i s = .next t) : s.GrownTo t := by
  refine ⟨?_, fun hx => ?_, exec_keeps_diagEnabled ht⟩
  · rcases exec_diag ht with e | ⟨-, hvs⟩
    · exact ⟨[], by rw [e, List.append_nil]⟩
    · exact hvs
  · rcases exec_end ht with ⟨e, -⟩ | ⟨cause, info, -, -, e⟩
    · exact e.trans hx
    · rw [e, terminate_exit]

/-- Settles O9: taking the turn off the schedule touches nothing of the three. -/
theorem diagAppendOnlyAndExitSticky : Obligations.DiagAppendOnlyAndExitSticky := by
  intro s t ht
  rcases step_cases s with ⟨-, -, e⟩ | ⟨-, -, e⟩ | ⟨_, -, e⟩ | ⟨i, v, _, -, e⟩ | ⟨base, bytes, _, -, e⟩ <;>
    rw [e] at ht
  · cases ht
  · exact (grownTo_exec ht : s.beginStep.GrownTo t)
  · cases ht
    exact grownTo_interrupt s.takeTurn
  · cases ht
    exact State.GrownTo.of_kept rfl rfl rfl
  · exact (grownTo_load ht : s.takeTurn.GrownTo t)

end Sys2Proof.Machine
end
